-- ==== Sys2Proof/Word.lean ====
section
/-! DEFINITION. Sys2Proof/Word.lean: the machine's word types (00_scope.md R9, R11). -/

namespace Sys2Proof

/-- A 32-bit word: a general register, an address, an instruction (00_scope.md R9). -/
abbrev Word := BitVec 32

/-- One byte of memory (20_memory.md R120). -/
abbrev Byte := BitVec 8

/-- The 5-bit number of a general register (10_state.md R20). -/
abbrev Reg := BitVec 5

/-- The number of a general register set, 0 to 3 (10_state.md R23, R51: at most four sets exist). -/
abbrev SetNum := BitVec 2

end Sys2Proof
end

