-- ==== Sys2Proof/Syntax.lean ====
section
/-! DEFINITION. Sys2Proof/Syntax.lean: the instructions, one constructor for each of the 133 rows of
spec/opcode_table.json, in the table's order. A constructor holds exactly the row's variable fields
(30_encoding.md R181 to R185), so that no bit of an encoding is dropped. -/

namespace Sys2Proof

/-- One instruction of the MIPS32 Release 2 set of this core (00_scope.md R2). -/
inductive Instr where
  /-- LB: 40_load_store.md R221. -/
  | lb (base : Reg) (rt : Reg) (offset : BitVec 16)
  /-- LBU: 40_load_store.md R222. -/
  | lbu (base : Reg) (rt : Reg) (offset : BitVec 16)
  /-- LH: 40_load_store.md R223. -/
  | lh (base : Reg) (rt : Reg) (offset : BitVec 16)
  /-- LHU: 40_load_store.md R224. -/
  | lhu (base : Reg) (rt : Reg) (offset : BitVec 16)
  /-- LW: 40_load_store.md R225. -/
  | lw (base : Reg) (rt : Reg) (offset : BitVec 16)
  /-- LWL: 40_load_store.md R226. -/
  | lwl (base : Reg) (rt : Reg) (offset : BitVec 16)
  /-- LWR: 40_load_store.md R227. -/
  | lwr (base : Reg) (rt : Reg) (offset : BitVec 16)
  /-- SB: 40_load_store.md R228. -/
  | sb (base : Reg) (rt : Reg) (offset : BitVec 16)
  /-- SH: 40_load_store.md R229. -/
  | sh (base : Reg) (rt : Reg) (offset : BitVec 16)
  /-- SW: 40_load_store.md R230. -/
  | sw (base : Reg) (rt : Reg) (offset : BitVec 16)
  /-- SWL: 40_load_store.md R231. -/
  | swl (base : Reg) (rt : Reg) (offset : BitVec 16)
  /-- SWR: 40_load_store.md R232. -/
  | swr (base : Reg) (rt : Reg) (offset : BitVec 16)
  /-- LL: 40_load_store.md R233. -/
  | ll (base : Reg) (rt : Reg) (offset : BitVec 16)
  /-- SC: 40_load_store.md R234. -/
  | sc (base : Reg) (rt : Reg) (offset : BitVec 16)
  /-- ADD: 41_computational.md R262. -/
  | add (rs : Reg) (rt : Reg) (rd : Reg)
  /-- ADDU: 41_computational.md R263. -/
  | addu (rs : Reg) (rt : Reg) (rd : Reg)
  /-- SUB: 41_computational.md R266. -/
  | sub (rs : Reg) (rt : Reg) (rd : Reg)
  /-- SUBU: 41_computational.md R267. -/
  | subu (rs : Reg) (rt : Reg) (rd : Reg)
  /-- SLT: 41_computational.md R268. -/
  | slt (rs : Reg) (rt : Reg) (rd : Reg)
  /-- SLTU: 41_computational.md R269. -/
  | sltu (rs : Reg) (rt : Reg) (rd : Reg)
  /-- AND: 41_computational.md R273. -/
  | and_ (rs : Reg) (rt : Reg) (rd : Reg)
  /-- OR: 41_computational.md R274. -/
  | or_ (rs : Reg) (rt : Reg) (rd : Reg)
  /-- XOR: 41_computational.md R275. -/
  | xor_ (rs : Reg) (rt : Reg) (rd : Reg)
  /-- NOR: 41_computational.md R276. -/
  | nor_ (rs : Reg) (rt : Reg) (rd : Reg)
  /-- ADDI: 41_computational.md R264. -/
  | addi (rs : Reg) (rt : Reg) (imm : BitVec 16)
  /-- ADDIU: 41_computational.md R265. -/
  | addiu (rs : Reg) (rt : Reg) (imm : BitVec 16)
  /-- SLTI: 41_computational.md R270. -/
  | slti (rs : Reg) (rt : Reg) (imm : BitVec 16)
  /-- SLTIU: 41_computational.md R271. -/
  | sltiu (rs : Reg) (rt : Reg) (imm : BitVec 16)
  /-- ANDI: 41_computational.md R277. -/
  | andi (rs : Reg) (rt : Reg) (imm : BitVec 16)
  /-- ORI: 41_computational.md R278. -/
  | ori (rs : Reg) (rt : Reg) (imm : BitVec 16)
  /-- XORI: 41_computational.md R279. -/
  | xori (rs : Reg) (rt : Reg) (imm : BitVec 16)
  /-- LUI: 41_computational.md R272. -/
  | lui (rt : Reg) (imm : BitVec 16)
  /-- NOP: 43_miscellaneous.md R398. -/
  | nop
  /-- SSNOP: 43_miscellaneous.md R399. -/
  | ssnop
  /-- EHB: 43_miscellaneous.md R400. -/
  | ehb
  /-- SLL: 41_computational.md R280. -/
  | sll (rt : Reg) (rd : Reg) (sa : BitVec 5)
  /-- SRL: 41_computational.md R281. -/
  | srl (rt : Reg) (rd : Reg) (sa : BitVec 5)
  /-- SRA: 41_computational.md R282. -/
  | sra (rt : Reg) (rd : Reg) (sa : BitVec 5)
  /-- SLLV: 41_computational.md R283. -/
  | sllv (rs : Reg) (rt : Reg) (rd : Reg)
  /-- SRLV: 41_computational.md R284. -/
  | srlv (rs : Reg) (rt : Reg) (rd : Reg)
  /-- SRAV: 41_computational.md R285. -/
  | srav (rs : Reg) (rt : Reg) (rd : Reg)
  /-- ROTR: 41_computational.md R286. -/
  | rotr (rt : Reg) (rd : Reg) (sa : BitVec 5)
  /-- ROTRV: 41_computational.md R287. -/
  | rotrv (rs : Reg) (rt : Reg) (rd : Reg)
  /-- CLZ: 41_computational.md R288. -/
  | clz (rs : Reg) (rt : Reg) (rd : Reg)
  /-- CLO: 41_computational.md R289. -/
  | clo (rs : Reg) (rt : Reg) (rd : Reg)
  /-- EXT: 41_computational.md R290. -/
  | ext (rs : Reg) (rt : Reg) (msbd : BitVec 5) (lsb : BitVec 5)
  /-- INS: 41_computational.md R291. -/
  | ins (rs : Reg) (rt : Reg) (msb : BitVec 5) (lsb : BitVec 5)
  /-- SEB: 41_computational.md R292. -/
  | seb (rt : Reg) (rd : Reg)
  /-- SEH: 41_computational.md R293. -/
  | seh (rt : Reg) (rd : Reg)
  /-- WSBH: 41_computational.md R294. -/
  | wsbh (rt : Reg) (rd : Reg)
  /-- MULT: 41_computational.md R295. -/
  | mult (rs : Reg) (rt : Reg)
  /-- MULTU: 41_computational.md R296. -/
  | multu (rs : Reg) (rt : Reg)
  /-- MUL: 41_computational.md R297. -/
  | mul (rs : Reg) (rt : Reg) (rd : Reg)
  /-- MADD: 41_computational.md R298. -/
  | madd (rs : Reg) (rt : Reg)
  /-- MADDU: 41_computational.md R299. -/
  | maddu (rs : Reg) (rt : Reg)
  /-- MSUB: 41_computational.md R300. -/
  | msub (rs : Reg) (rt : Reg)
  /-- MSUBU: 41_computational.md R301. -/
  | msubu (rs : Reg) (rt : Reg)
  /-- DIV: 41_computational.md R302. -/
  | div (rs : Reg) (rt : Reg)
  /-- DIVU: 41_computational.md R303. -/
  | divu (rs : Reg) (rt : Reg)
  /-- MFHI: 41_computational.md R304. -/
  | mfhi (rd : Reg)
  /-- MFLO: 41_computational.md R305. -/
  | mflo (rd : Reg)
  /-- MTHI: 41_computational.md R306. -/
  | mthi (rs : Reg)
  /-- MTLO: 41_computational.md R307. -/
  | mtlo (rs : Reg)
  /-- J: 42_jump_branch.md R346. -/
  | j (index : BitVec 26)
  /-- JAL: 42_jump_branch.md R347. -/
  | jal (index : BitVec 26)
  /-- JR: 42_jump_branch.md R348. -/
  | jr (rs : Reg)
  /-- JALR: 42_jump_branch.md R349. -/
  | jalr (rs : Reg) (rd : Reg)
  /-- JR.HB: 42_jump_branch.md R350. -/
  | jrHb (rs : Reg)
  /-- JALR.HB: 42_jump_branch.md R351. -/
  | jalrHb (rs : Reg) (rd : Reg)
  /-- JALX: 42_jump_branch.md R352. -/
  | jalx (index : BitVec 26)
  /-- BEQ: 42_jump_branch.md R353. -/
  | beq (rs : Reg) (rt : Reg) (offset : BitVec 16)
  /-- BNE: 42_jump_branch.md R354. -/
  | bne (rs : Reg) (rt : Reg) (offset : BitVec 16)
  /-- BLEZ: 42_jump_branch.md R355. -/
  | blez (rs : Reg) (offset : BitVec 16)
  /-- BGTZ: 42_jump_branch.md R356. -/
  | bgtz (rs : Reg) (offset : BitVec 16)
  /-- BLTZ: 42_jump_branch.md R357. -/
  | bltz (rs : Reg) (offset : BitVec 16)
  /-- BGEZ: 42_jump_branch.md R358. -/
  | bgez (rs : Reg) (offset : BitVec 16)
  /-- BLTZAL: 42_jump_branch.md R359. -/
  | bltzal (rs : Reg) (offset : BitVec 16)
  /-- BGEZAL: 42_jump_branch.md R360. -/
  | bgezal (rs : Reg) (offset : BitVec 16)
  /-- BLTZL: 42_jump_branch.md R365. -/
  | bltzl (rs : Reg) (offset : BitVec 16)
  /-- BGEZL: 42_jump_branch.md R366. -/
  | bgezl (rs : Reg) (offset : BitVec 16)
  /-- BLTZALL: 42_jump_branch.md R367. -/
  | bltzall (rs : Reg) (offset : BitVec 16)
  /-- BGEZALL: 42_jump_branch.md R368. -/
  | bgezall (rs : Reg) (offset : BitVec 16)
  /-- BEQL: 42_jump_branch.md R361. -/
  | beql (rs : Reg) (rt : Reg) (offset : BitVec 16)
  /-- BNEL: 42_jump_branch.md R362. -/
  | bnel (rs : Reg) (rt : Reg) (offset : BitVec 16)
  /-- BLEZL: 42_jump_branch.md R363. -/
  | blezl (rs : Reg) (offset : BitVec 16)
  /-- BGTZL: 42_jump_branch.md R364. -/
  | bgtzl (rs : Reg) (offset : BitVec 16)
  /-- SYNC: 43_miscellaneous.md R380. -/
  | sync (stype : BitVec 5)
  /-- SYNCI: 43_miscellaneous.md R381. -/
  | synci (base : Reg) (offset : BitVec 16)
  /-- SYSCALL: 43_miscellaneous.md R382. -/
  | syscall (code : BitVec 20)
  /-- BREAK: 43_miscellaneous.md R383. -/
  | break_ (code : BitVec 20)
  /-- TGE: 43_miscellaneous.md R384. -/
  | tge (rs : Reg) (rt : Reg) (code : BitVec 10)
  /-- TGEU: 43_miscellaneous.md R385. -/
  | tgeu (rs : Reg) (rt : Reg) (code : BitVec 10)
  /-- TLT: 43_miscellaneous.md R386. -/
  | tlt (rs : Reg) (rt : Reg) (code : BitVec 10)
  /-- TLTU: 43_miscellaneous.md R387. -/
  | tltu (rs : Reg) (rt : Reg) (code : BitVec 10)
  /-- TEQ: 43_miscellaneous.md R388. -/
  | teq (rs : Reg) (rt : Reg) (code : BitVec 10)
  /-- TNE: 43_miscellaneous.md R389. -/
  | tne (rs : Reg) (rt : Reg) (code : BitVec 10)
  /-- TGEI: 43_miscellaneous.md R390. -/
  | tgei (rs : Reg) (imm : BitVec 16)
  /-- TGEIU: 43_miscellaneous.md R391. -/
  | tgeiu (rs : Reg) (imm : BitVec 16)
  /-- TLTI: 43_miscellaneous.md R392. -/
  | tlti (rs : Reg) (imm : BitVec 16)
  /-- TLTIU: 43_miscellaneous.md R393. -/
  | tltiu (rs : Reg) (imm : BitVec 16)
  /-- TEQI: 43_miscellaneous.md R394. -/
  | teqi (rs : Reg) (imm : BitVec 16)
  /-- TNEI: 43_miscellaneous.md R395. -/
  | tnei (rs : Reg) (imm : BitVec 16)
  /-- SDBBP: 43_miscellaneous.md R404. -/
  | sdbbp (code : BitVec 20)
  /-- MOVN: 43_miscellaneous.md R396. -/
  | movn (rs : Reg) (rt : Reg) (rd : Reg)
  /-- MOVZ: 43_miscellaneous.md R397. -/
  | movz (rs : Reg) (rt : Reg) (rd : Reg)
  /-- MOVCI: 43_miscellaneous.md R405 (bit 17 and bits 10:6 are outside the row's mask and are kept as `b17` and `low`). -/
  | movci (rs : Reg) (cc : BitVec 3) (b17 : BitVec 1) (tf : BitVec 1) (rd : Reg) (low : BitVec 5)
  /-- RDHWR: 43_miscellaneous.md R401. -/
  | rdhwr (rt : Reg) (rd : Reg)
  /-- PREF: 43_miscellaneous.md R402. -/
  | pref (base : Reg) (hint : BitVec 5) (offset : BitVec 16)
  /-- CACHE: 43_miscellaneous.md R403. -/
  | cache (base : Reg) (op : BitVec 5) (offset : BitVec 16)
  /-- MFC0: 44_coprocessor.md R431. -/
  | mfc0 (rt : Reg) (rd : Reg) (sel : BitVec 3)
  /-- MTC0: 44_coprocessor.md R432. -/
  | mtc0 (rt : Reg) (rd : Reg) (sel : BitVec 3)
  /-- DI: 44_coprocessor.md R433. -/
  | di (rt : Reg)
  /-- EI: 44_coprocessor.md R434. -/
  | ei (rt : Reg)
  /-- RDPGPR: 44_coprocessor.md R435. -/
  | rdpgpr (rt : Reg) (rd : Reg)
  /-- WRPGPR: 44_coprocessor.md R436. -/
  | wrpgpr (rt : Reg) (rd : Reg)
  /-- ERET: 44_coprocessor.md R437. -/
  | eret
  /-- DERET: 44_coprocessor.md R438. -/
  | deret
  /-- WAIT: 44_coprocessor.md R439. -/
  | wait (code : BitVec 19)
  /-- TLBR: 44_coprocessor.md R440. -/
  | tlbr
  /-- TLBWI: 44_coprocessor.md R440. -/
  | tlbwi
  /-- TLBWR: 44_coprocessor.md R440. -/
  | tlbwr
  /-- TLBP: 44_coprocessor.md R440. -/
  | tlbp
  /-- COP1: 44_coprocessor.md R441. -/
  | cop1 (bits : BitVec 26)
  /-- COP2: 44_coprocessor.md R442. -/
  | cop2 (bits : BitVec 26)
  /-- COP1X: 44_coprocessor.md R443. -/
  | cop1x (bits : BitVec 26)
  /-- LWC1: 44_coprocessor.md R444. -/
  | lwc1 (base : Reg) (ft : BitVec 5) (offset : BitVec 16)
  /-- LDC1: 44_coprocessor.md R444. -/
  | ldc1 (base : Reg) (ft : BitVec 5) (offset : BitVec 16)
  /-- SWC1: 44_coprocessor.md R444. -/
  | swc1 (base : Reg) (ft : BitVec 5) (offset : BitVec 16)
  /-- SDC1: 44_coprocessor.md R444. -/
  | sdc1 (base : Reg) (ft : BitVec 5) (offset : BitVec 16)
  /-- LWC2: 44_coprocessor.md R445. -/
  | lwc2 (base : Reg) (rt : Reg) (offset : BitVec 16)
  /-- LDC2: 44_coprocessor.md R445. -/
  | ldc2 (base : Reg) (rt : Reg) (offset : BitVec 16)
  /-- SWC2: 44_coprocessor.md R445. -/
  | swc2 (base : Reg) (rt : Reg) (offset : BitVec 16)
  /-- SDC2: 44_coprocessor.md R445. -/
  | sdc2 (base : Reg) (rt : Reg) (offset : BitVec 16)
deriving DecidableEq, Repr

end Sys2Proof
end

