-- ==== Sys2Proof/WellFormed.lean ====
section
/-! DEFINITION. Sys2Proof/WellFormed.lean: the operand rules an instruction of this core keeps. Every field
has its exact width in `Instr`; what is left to check is which field values the spec refuses for an
instruction, and which SLL words are instructions of their own. -/

namespace Sys2Proof

/-- The instruction keeps the operand rules the spec gives it: SLL is not the word of NOP, SSNOP or EHB
(30_encoding.md R198); CLZ and CLO repeat `rd` in `rt` (41_computational.md R288, R289); EXT and INS name a
bit range inside the word (R290, R291); a linking jump or branch does not read its link register
(42_jump_branch.md R341). -/
def Instr.wellFormed : Instr → Bool
  | .lb _ _ _ => true
  | .lbu _ _ _ => true
  | .lh _ _ _ => true
  | .lhu _ _ _ => true
  | .lw _ _ _ => true
  | .lwl _ _ _ => true
  | .lwr _ _ _ => true
  | .sb _ _ _ => true
  | .sh _ _ _ => true
  | .sw _ _ _ => true
  | .swl _ _ _ => true
  | .swr _ _ _ => true
  | .ll _ _ _ => true
  | .sc _ _ _ => true
  | .add _ _ _ => true
  | .addu _ _ _ => true
  | .sub _ _ _ => true
  | .subu _ _ _ => true
  | .slt _ _ _ => true
  | .sltu _ _ _ => true
  | .and_ _ _ _ => true
  | .or_ _ _ _ => true
  | .xor_ _ _ _ => true
  | .nor_ _ _ _ => true
  | .addi _ _ _ => true
  | .addiu _ _ _ => true
  | .slti _ _ _ => true
  | .sltiu _ _ _ => true
  | .andi _ _ _ => true
  | .ori _ _ _ => true
  | .xori _ _ _ => true
  | .lui _ _ => true
  | .nop => true
  | .ssnop => true
  | .ehb => true
  | .sll rt rd sa => !(rt == 0#5 && rd == 0#5 && (sa == 0#5 || sa == 1#5 || sa == 3#5))
  | .srl _ _ _ => true
  | .sra _ _ _ => true
  | .sllv _ _ _ => true
  | .srlv _ _ _ => true
  | .srav _ _ _ => true
  | .rotr _ _ _ => true
  | .rotrv _ _ _ => true
  | .clz _ rt rd => rt == rd
  | .clo _ rt rd => rt == rd
  | .ext _ _ msbd lsb => decide (lsb.toNat + msbd.toNat ≤ 31)
  | .ins _ _ msb lsb => decide (lsb.toNat ≤ msb.toNat)
  | .seb _ _ => true
  | .seh _ _ => true
  | .wsbh _ _ => true
  | .mult _ _ => true
  | .multu _ _ => true
  | .mul _ _ _ => true
  | .madd _ _ => true
  | .maddu _ _ => true
  | .msub _ _ => true
  | .msubu _ _ => true
  | .div _ _ => true
  | .divu _ _ => true
  | .mfhi _ => true
  | .mflo _ => true
  | .mthi _ => true
  | .mtlo _ => true
  | .j _ => true
  | .jal _ => true
  | .jr _ => true
  | .jalr rs rd => rs != rd
  | .jrHb _ => true
  | .jalrHb rs rd => rs != rd
  | .jalx _ => true
  | .beq _ _ _ => true
  | .bne _ _ _ => true
  | .blez _ _ => true
  | .bgtz _ _ => true
  | .bltz _ _ => true
  | .bgez _ _ => true
  | .bltzal rs _ => rs != 31#5
  | .bgezal rs _ => rs != 31#5
  | .bltzl _ _ => true
  | .bgezl _ _ => true
  | .bltzall rs _ => rs != 31#5
  | .bgezall rs _ => rs != 31#5
  | .beql _ _ _ => true
  | .bnel _ _ _ => true
  | .blezl _ _ => true
  | .bgtzl _ _ => true
  | .sync _ => true
  | .synci _ _ => true
  | .syscall _ => true
  | .break_ _ => true
  | .tge _ _ _ => true
  | .tgeu _ _ _ => true
  | .tlt _ _ _ => true
  | .tltu _ _ _ => true
  | .teq _ _ _ => true
  | .tne _ _ _ => true
  | .tgei _ _ => true
  | .tgeiu _ _ => true
  | .tlti _ _ => true
  | .tltiu _ _ => true
  | .teqi _ _ => true
  | .tnei _ _ => true
  | .sdbbp _ => true
  | .movn _ _ _ => true
  | .movz _ _ _ => true
  | .movci _ _ _ _ _ _ => true
  | .rdhwr _ _ => true
  | .pref _ _ _ => true
  | .cache _ _ _ => true
  | .mfc0 _ _ _ => true
  | .mtc0 _ _ _ => true
  | .di _ => true
  | .ei _ => true
  | .rdpgpr _ _ => true
  | .wrpgpr _ _ => true
  | .eret => true
  | .deret => true
  | .wait _ => true
  | .tlbr => true
  | .tlbwi => true
  | .tlbwr => true
  | .tlbp => true
  | .cop1 _ => true
  | .cop2 _ => true
  | .cop1x _ => true
  | .lwc1 _ _ _ => true
  | .ldc1 _ _ _ => true
  | .swc1 _ _ _ => true
  | .sdc1 _ _ _ => true
  | .lwc2 _ _ _ => true
  | .ldc2 _ _ _ => true
  | .swc2 _ _ _ => true
  | .sdc2 _ _ _ => true

end Sys2Proof
end

