-- ==== Sys2Proof/Decode.lean ====
section
/-! DEFINITION. Sys2Proof/Decode.lean: from bytes to an instruction, total, rejecting by name, and the
encoder back. The decoder follows the maps of 30_encoding.md R189 to R194 and the procedure of R195; a word
whose selectors name an instruction but whose must-be-zero fields are not zero is told apart from a word
that is assigned to no instruction (R196, R197). -/

namespace Sys2Proof

/-! ## Fields of a word (30_encoding.md R181, R185) -/

/-- `opcode`, bits 31:26. -/
def opcodeOf (w : Word) : BitVec 6 := w.extractLsb' 26 6

/-- `rs` (or `base`), bits 25:21. -/
def rsOf (w : Word) : Reg := w.extractLsb' 21 5

/-- `rt`, bits 20:16. -/
def rtOf (w : Word) : Reg := w.extractLsb' 16 5

/-- `rd`, bits 15:11. -/
def rdOf (w : Word) : Reg := w.extractLsb' 11 5

/-- `sa`, bits 10:6. -/
def saOf (w : Word) : BitVec 5 := w.extractLsb' 6 5

/-- `function`, bits 5:0. -/
def functOf (w : Word) : BitVec 6 := w.extractLsb' 0 6

/-- `immediate` (or `offset`), bits 15:0. -/
def immOf (w : Word) : BitVec 16 := w.extractLsb' 0 16

/-- `instr_index` (or the 26 bits of a coprocessor word), bits 25:0. -/
def indexOf (w : Word) : BitVec 26 := w.extractLsb' 0 26

/-- `code` of SYSCALL, BREAK, SDBBP, bits 25:6. -/
def codeOf (w : Word) : BitVec 20 := w.extractLsb' 6 20

/-- `code` of the register traps, bits 15:6. -/
def trapCodeOf (w : Word) : BitVec 10 := w.extractLsb' 6 10

/-- `code` of WAIT, bits 24:6. -/
def waitCodeOf (w : Word) : BitVec 19 := w.extractLsb' 6 19

/-- `sel` of MFC0 and MTC0, bits 2:0. -/
def selOf (w : Word) : BitVec 3 := w.extractLsb' 0 3

/-- Bits 10:3 of MFC0 and MTC0, which must be zero. -/
def selZeroOf (w : Word) : BitVec 8 := w.extractLsb' 3 8

/-- Bit 25, `CO`, of a COP0 word (R194). -/
def coOf (w : Word) : BitVec 1 := w.extractLsb' 25 1

/-- `cc` of MOVCI, bits 20:18. -/
def ccOf (w : Word) : BitVec 3 := w.extractLsb' 18 3

/-- Bit 17 of MOVCI. -/
def bit17Of (w : Word) : BitVec 1 := w.extractLsb' 17 1

/-- `tf` of MOVCI, bit 16. -/
def tfOf (w : Word) : BitVec 1 := w.extractLsb' 16 1

/-! ## The decoder -/

/-- What a fetched word is. -/
inductive Decoded where
  /-- An instruction of this core. -/
  | instr (i : Instr)
  /-- A word assigned to no instruction: Reserved Instruction (30_encoding.md R196). -/
  | reserved
  /-- A COP0 word assigned to no instruction: usability first, then Reserved Instruction
  (44_coprocessor.md R446). -/
  | reservedCop0
  /-- A word of an assigned instruction with a nonzero must-be-zero field (30_encoding.md R197). -/
  | mustBeZero
  /-- The same for a COP0 word: usability first (44_coprocessor.md R446). -/
  | mustBeZeroCop0
  /-- Fewer than four bytes: no instruction is that short (30_encoding.md R180). -/
  | truncated
deriving DecidableEq, Repr

/-- An instruction whose must-be-zero fields are zero exactly when `ok` (30_encoding.md R197). -/
def whenZero (ok : Bool) (i : Instr) : Decoded := if ok then .instr i else .mustBeZero

/-- The same for a COP0 word (44_coprocessor.md R446). -/
def whenZeroCop0 (ok : Bool) (i : Instr) : Decoded := if ok then .instr i else .mustBeZeroCop0

/-- The words with `rs`, `rt`, `rd`, `sa` all zero among SLL's are NOP, SSNOP and EHB by their `sa`
(30_encoding.md R198); every other one is SLL (41_computational.md R280). -/
def decodeSll (w : Word) : Decoded :=
  if rsOf w = 0#5 then
    if rtOf w = 0#5 ∧ rdOf w = 0#5 ∧ saOf w = 0#5 then .instr .nop
    else if rtOf w = 0#5 ∧ rdOf w = 0#5 ∧ saOf w = 1#5 then .instr .ssnop
    else if rtOf w = 0#5 ∧ rdOf w = 0#5 ∧ saOf w = 3#5 then .instr .ehb
    else .instr (.sll (rtOf w) (rdOf w) (saOf w))
  else .mustBeZero

/-- The SPECIAL map (30_encoding.md R190). -/
def decodeSpecial (w : Word) : Decoded :=
  let rs := rsOf w
  let rt := rtOf w
  let rd := rdOf w
  let sa := saOf w
  match functOf w with
  | 0x00#6 => decodeSll w
  | 0x01#6 => .instr (.movci rs (ccOf w) (bit17Of w) (tfOf w) rd sa)
  | 0x02#6 =>
    if rs = 0#5 then .instr (.srl rt rd sa) else if rs = 1#5 then .instr (.rotr rt rd sa) else .mustBeZero
  | 0x03#6 => whenZero (rs == 0#5) (.sra rt rd sa)
  | 0x04#6 => whenZero (sa == 0#5) (.sllv rs rt rd)
  | 0x06#6 =>
    if sa = 0#5 then .instr (.srlv rs rt rd) else if sa = 1#5 then .instr (.rotrv rs rt rd) else .mustBeZero
  | 0x07#6 => whenZero (sa == 0#5) (.srav rs rt rd)
  | 0x08#6 =>
    if rt = 0#5 ∧ rd = 0#5 ∧ sa = 0#5 then .instr (.jr rs)
    else if rt = 0#5 ∧ rd = 0#5 ∧ sa = 16#5 then .instr (.jrHb rs) else .mustBeZero
  | 0x09#6 =>
    if rt = 0#5 ∧ sa = 0#5 then .instr (.jalr rs rd)
    else if rt = 0#5 ∧ sa = 16#5 then .instr (.jalrHb rs rd) else .mustBeZero
  | 0x0A#6 => whenZero (sa == 0#5) (.movz rs rt rd)
  | 0x0B#6 => whenZero (sa == 0#5) (.movn rs rt rd)
  | 0x0C#6 => .instr (.syscall (codeOf w))
  | 0x0D#6 => .instr (.break_ (codeOf w))
  | 0x0F#6 => whenZero (rs == 0#5 && rt == 0#5 && rd == 0#5) (.sync sa)
  | 0x10#6 => whenZero (rs == 0#5 && rt == 0#5 && sa == 0#5) (.mfhi rd)
  | 0x11#6 => whenZero (rt == 0#5 && rd == 0#5 && sa == 0#5) (.mthi rs)
  | 0x12#6 => whenZero (rs == 0#5 && rt == 0#5 && sa == 0#5) (.mflo rd)
  | 0x13#6 => whenZero (rt == 0#5 && rd == 0#5 && sa == 0#5) (.mtlo rs)
  | 0x18#6 => whenZero (rd == 0#5 && sa == 0#5) (.mult rs rt)
  | 0x19#6 => whenZero (rd == 0#5 && sa == 0#5) (.multu rs rt)
  | 0x1A#6 => whenZero (rd == 0#5 && sa == 0#5) (.div rs rt)
  | 0x1B#6 => whenZero (rd == 0#5 && sa == 0#5) (.divu rs rt)
  | 0x20#6 => whenZero (sa == 0#5) (.add rs rt rd)
  | 0x21#6 => whenZero (sa == 0#5) (.addu rs rt rd)
  | 0x22#6 => whenZero (sa == 0#5) (.sub rs rt rd)
  | 0x23#6 => whenZero (sa == 0#5) (.subu rs rt rd)
  | 0x24#6 => whenZero (sa == 0#5) (.and_ rs rt rd)
  | 0x25#6 => whenZero (sa == 0#5) (.or_ rs rt rd)
  | 0x26#6 => whenZero (sa == 0#5) (.xor_ rs rt rd)
  | 0x27#6 => whenZero (sa == 0#5) (.nor_ rs rt rd)
  | 0x2A#6 => whenZero (sa == 0#5) (.slt rs rt rd)
  | 0x2B#6 => whenZero (sa == 0#5) (.sltu rs rt rd)
  | 0x30#6 => .instr (.tge rs rt (trapCodeOf w))
  | 0x31#6 => .instr (.tgeu rs rt (trapCodeOf w))
  | 0x32#6 => .instr (.tlt rs rt (trapCodeOf w))
  | 0x33#6 => .instr (.tltu rs rt (trapCodeOf w))
  | 0x34#6 => .instr (.teq rs rt (trapCodeOf w))
  | 0x36#6 => .instr (.tne rs rt (trapCodeOf w))
  | _ => .reserved

/-- The REGIMM map (30_encoding.md R191). -/
def decodeRegimm (w : Word) : Decoded :=
  let rs := rsOf w
  let imm := immOf w
  match rtOf w with
  | 0x00#5 => .instr (.bltz rs imm)
  | 0x01#5 => .instr (.bgez rs imm)
  | 0x02#5 => .instr (.bltzl rs imm)
  | 0x03#5 => .instr (.bgezl rs imm)
  | 0x08#5 => .instr (.tgei rs imm)
  | 0x09#5 => .instr (.tgeiu rs imm)
  | 0x0A#5 => .instr (.tlti rs imm)
  | 0x0B#5 => .instr (.tltiu rs imm)
  | 0x0C#5 => .instr (.teqi rs imm)
  | 0x0E#5 => .instr (.tnei rs imm)
  | 0x10#5 => .instr (.bltzal rs imm)
  | 0x11#5 => .instr (.bgezal rs imm)
  | 0x12#5 => .instr (.bltzall rs imm)
  | 0x13#5 => .instr (.bgezall rs imm)
  | 0x1F#5 => .instr (.synci rs imm)
  | _ => .reserved

/-- The SPECIAL2 map (30_encoding.md R192). -/
def decodeSpecial2 (w : Word) : Decoded :=
  let rs := rsOf w
  let rt := rtOf w
  let rd := rdOf w
  let sa := saOf w
  match functOf w with
  | 0x00#6 => whenZero (rd == 0#5 && sa == 0#5) (.madd rs rt)
  | 0x01#6 => whenZero (rd == 0#5 && sa == 0#5) (.maddu rs rt)
  | 0x02#6 => whenZero (sa == 0#5) (.mul rs rt rd)
  | 0x04#6 => whenZero (rd == 0#5 && sa == 0#5) (.msub rs rt)
  | 0x05#6 => whenZero (rd == 0#5 && sa == 0#5) (.msubu rs rt)
  | 0x20#6 => whenZero (sa == 0#5) (.clz rs rt rd)
  | 0x21#6 => whenZero (sa == 0#5) (.clo rs rt rd)
  | 0x3F#6 => .instr (.sdbbp (codeOf w))
  | _ => .reserved

/-- The BSHFL group of SPECIAL3, selected by `sa` (30_encoding.md R193). -/
def decodeBshfl (w : Word) : Decoded :=
  match saOf w with
  | 0x02#5 => whenZero (rsOf w == 0#5) (.wsbh (rtOf w) (rdOf w))
  | 0x10#5 => whenZero (rsOf w == 0#5) (.seb (rtOf w) (rdOf w))
  | 0x18#5 => whenZero (rsOf w == 0#5) (.seh (rtOf w) (rdOf w))
  | _ => .reserved

/-- The SPECIAL3 map (30_encoding.md R193). -/
def decodeSpecial3 (w : Word) : Decoded :=
  match functOf w with
  | 0x00#6 => .instr (.ext (rsOf w) (rtOf w) (rdOf w) (saOf w))
  | 0x04#6 => .instr (.ins (rsOf w) (rtOf w) (rdOf w) (saOf w))
  | 0x20#6 => decodeBshfl w
  | 0x3B#6 => whenZero (rsOf w == 0#5 && saOf w == 0#5) (.rdhwr (rtOf w) (rdOf w))
  | _ => .reserved

/-- The COP0 words with `CO` = 1 (30_encoding.md R194). -/
def decodeCo (w : Word) : Decoded :=
  match functOf w with
  | 0x01#6 => whenZeroCop0 (waitCodeOf w == 0#19) .tlbr
  | 0x02#6 => whenZeroCop0 (waitCodeOf w == 0#19) .tlbwi
  | 0x06#6 => whenZeroCop0 (waitCodeOf w == 0#19) .tlbwr
  | 0x08#6 => whenZeroCop0 (waitCodeOf w == 0#19) .tlbp
  | 0x18#6 => whenZeroCop0 (waitCodeOf w == 0#19) .eret
  | 0x1F#6 => whenZeroCop0 (waitCodeOf w == 0#19) .deret
  | 0x20#6 => .instr (.wait (waitCodeOf w))
  | _ => .reservedCop0

/-- The MFMC0 words (30_encoding.md R194): `rd` = 12 is the pair DI and EI, told apart by bit 5, and their `sa` and
bits 4:0 must be zero (R195, R197); with another `rd` the word is neither, and reserved (44_coprocessor.md R446;
log entry 23). -/
def decodeMfmc0 (w : Word) : Decoded :=
  let zero := saOf w == 0#5 && w.extractLsb' 0 5 == 0#5
  if rdOf w = 12#5 then whenZeroCop0 zero (if w.getLsbD 5 then .ei (rtOf w) else .di (rtOf w)) else .reservedCop0

/-- The COP0 map (30_encoding.md R194, 44_coprocessor.md R446). -/
def decodeCop0 (w : Word) : Decoded :=
  let rt := rtOf w
  let rd := rdOf w
  if coOf w = 1#1 then decodeCo w
  else match rsOf w with
    | 0x00#5 => whenZeroCop0 (selZeroOf w == 0#8) (.mfc0 rt rd (selOf w))
    | 0x04#5 => whenZeroCop0 (selZeroOf w == 0#8) (.mtc0 rt rd (selOf w))
    | 0x0A#5 => whenZeroCop0 (saOf w == 0#5 && functOf w == 0#6) (.rdpgpr rt rd)
    | 0x0B#5 => decodeMfmc0 w
    | 0x0E#5 => whenZeroCop0 (saOf w == 0#5 && functOf w == 0#6) (.wrpgpr rt rd)
    | _ => .reservedCop0

/-- The decoder of a MIPS32 word: the primary map (30_encoding.md R189, R195). -/
def decode (w : Word) : Decoded :=
  let rs := rsOf w
  let rt := rtOf w
  let imm := immOf w
  match opcodeOf w with
  | 0x00#6 => decodeSpecial w
  | 0x01#6 => decodeRegimm w
  | 0x02#6 => .instr (.j (indexOf w))
  | 0x03#6 => .instr (.jal (indexOf w))
  | 0x04#6 => .instr (.beq rs rt imm)
  | 0x05#6 => .instr (.bne rs rt imm)
  | 0x06#6 => whenZero (rt == 0#5) (.blez rs imm)
  | 0x07#6 => whenZero (rt == 0#5) (.bgtz rs imm)
  | 0x08#6 => .instr (.addi rs rt imm)
  | 0x09#6 => .instr (.addiu rs rt imm)
  | 0x0A#6 => .instr (.slti rs rt imm)
  | 0x0B#6 => .instr (.sltiu rs rt imm)
  | 0x0C#6 => .instr (.andi rs rt imm)
  | 0x0D#6 => .instr (.ori rs rt imm)
  | 0x0E#6 => .instr (.xori rs rt imm)
  | 0x0F#6 => whenZero (rs == 0#5) (.lui rt imm)
  | 0x10#6 => decodeCop0 w
  | 0x11#6 => .instr (.cop1 (indexOf w))
  | 0x12#6 => .instr (.cop2 (indexOf w))
  | 0x13#6 => .instr (.cop1x (indexOf w))
  | 0x14#6 => .instr (.beql rs rt imm)
  | 0x15#6 => .instr (.bnel rs rt imm)
  | 0x16#6 => whenZero (rt == 0#5) (.blezl rs imm)
  | 0x17#6 => whenZero (rt == 0#5) (.bgtzl rs imm)
  | 0x1C#6 => decodeSpecial2 w
  | 0x1D#6 => .instr (.jalx (indexOf w))
  | 0x1F#6 => decodeSpecial3 w
  | 0x20#6 => .instr (.lb rs rt imm)
  | 0x21#6 => .instr (.lh rs rt imm)
  | 0x22#6 => .instr (.lwl rs rt imm)
  | 0x23#6 => .instr (.lw rs rt imm)
  | 0x24#6 => .instr (.lbu rs rt imm)
  | 0x25#6 => .instr (.lhu rs rt imm)
  | 0x26#6 => .instr (.lwr rs rt imm)
  | 0x28#6 => .instr (.sb rs rt imm)
  | 0x29#6 => .instr (.sh rs rt imm)
  | 0x2A#6 => .instr (.swl rs rt imm)
  | 0x2B#6 => .instr (.sw rs rt imm)
  | 0x2E#6 => .instr (.swr rs rt imm)
  | 0x2F#6 => .instr (.cache rs rt imm)
  | 0x30#6 => .instr (.ll rs rt imm)
  | 0x31#6 => .instr (.lwc1 rs rt imm)
  | 0x32#6 => .instr (.lwc2 rs rt imm)
  | 0x33#6 => .instr (.pref rs rt imm)
  | 0x35#6 => .instr (.ldc1 rs rt imm)
  | 0x36#6 => .instr (.ldc2 rs rt imm)
  | 0x38#6 => .instr (.sc rs rt imm)
  | 0x39#6 => .instr (.swc1 rs rt imm)
  | 0x3A#6 => .instr (.swc2 rs rt imm)
  | 0x3D#6 => .instr (.sdc1 rs rt imm)
  | 0x3E#6 => .instr (.sdc2 rs rt imm)
  | _ => .reserved

/-- The little-endian word of four bytes, the first at the lowest address (20_memory.md R124, R126). -/
def wordOfBytes (b0 b1 b2 b3 : Byte) : Word := b3 ++ b2 ++ b1 ++ b0

/-- Byte `k` (0 the least significant) of a word (20_memory.md R124). -/
def byteOf (w : Word) (k : Nat) : Byte := w.extractLsb' (8 * k) 8

/-- The four bytes of a word as memory holds them, the first at the lowest address (20_memory.md R124). -/
def bytesOfWord (w : Word) : List Byte := [byteOf w 0, byteOf w 1, byteOf w 2, byteOf w 3]

/-- The decoder on bytes: the instruction in the first four, total on any list (30_encoding.md R180). -/
def decodeBytes : List Byte → Decoded
  | b0 :: b1 :: b2 :: b3 :: _ => decode (wordOfBytes b0 b1 b2 b3)
  | _ => .truncated

/-- The instruction the decoder reads from the bits `w` of an instruction, numbered as
spec/opcode_table.json numbers them: laid out as bytes in memory order and given to `decodeBytes`. -/
def decodeTableWord (nbits w : Nat) : Option Instr :=
  match decodeBytes (bytesOfWord (BitVec.ofNat 32 (w % 2 ^ nbits))) with
  | .instr i => some i
  | _ => none

/-! ## The encoder (30_encoding.md R182 to R185) -/

/-- R-type: `opcode | rs | rt | rd | sa | function` (R184). -/
def encR (op : BitVec 6) (rs rt rd : Reg) (sa : BitVec 5) (fn : BitVec 6) : Word :=
  op ++ rs ++ rt ++ rd ++ sa ++ fn

/-- I-type: `opcode | rs | rt | immediate` (R182). -/
def encI (op : BitVec 6) (rs rt : Reg) (imm : BitVec 16) : Word := op ++ rs ++ rt ++ imm

/-- J-type: `opcode | instr_index` (R183). -/
def encJ (op : BitVec 6) (index : BitVec 26) : Word := op ++ index

/-- `opcode | code | function`: SYSCALL, BREAK, SDBBP (R185). -/
def encCode (op : BitVec 6) (code : BitVec 20) (fn : BitVec 6) : Word := op ++ code ++ fn

/-- `opcode | rs | rt | code | function`: the register traps (R185). -/
def encTrap (rs rt : Reg) (code : BitVec 10) (fn : BitVec 6) : Word := 0x00#6 ++ rs ++ rt ++ code ++ fn

/-- `opcode | 1 | code | function`: the COP0 words with `CO` = 1 (R194). -/
def encCo (code : BitVec 19) (fn : BitVec 6) : Word := 0x10#6 ++ 1#1 ++ code ++ fn

/-- `opcode | rs | rt | rd | 0 | sel`: MFC0 and MTC0 (R185). -/
def encSel (rs rt rd : Reg) (sel : BitVec 3) : Word := 0x10#6 ++ rs ++ rt ++ rd ++ 0#8 ++ sel

/-- MOVCI: `opcode | rs | cc | bit 17 | tf | rd | low | function` (43_miscellaneous.md R405). -/
def encMovci (rs : Reg) (cc : BitVec 3) (b17 tf : BitVec 1) (rd : Reg) (low : BitVec 5) : Word :=
  0x00#6 ++ rs ++ cc ++ b17 ++ tf ++ rd ++ low ++ 0x01#6

/-- The word of an instruction, from the encoding of its rule. -/
def encode : Instr → Word
  | .lb base rt offset => encI 0x20#6 base rt offset
  | .lbu base rt offset => encI 0x24#6 base rt offset
  | .lh base rt offset => encI 0x21#6 base rt offset
  | .lhu base rt offset => encI 0x25#6 base rt offset
  | .lw base rt offset => encI 0x23#6 base rt offset
  | .lwl base rt offset => encI 0x22#6 base rt offset
  | .lwr base rt offset => encI 0x26#6 base rt offset
  | .sb base rt offset => encI 0x28#6 base rt offset
  | .sh base rt offset => encI 0x29#6 base rt offset
  | .sw base rt offset => encI 0x2B#6 base rt offset
  | .swl base rt offset => encI 0x2A#6 base rt offset
  | .swr base rt offset => encI 0x2E#6 base rt offset
  | .ll base rt offset => encI 0x30#6 base rt offset
  | .sc base rt offset => encI 0x38#6 base rt offset
  | .add rs rt rd => encR 0x00#6 rs rt rd 0x00#5 0x20#6
  | .addu rs rt rd => encR 0x00#6 rs rt rd 0x00#5 0x21#6
  | .sub rs rt rd => encR 0x00#6 rs rt rd 0x00#5 0x22#6
  | .subu rs rt rd => encR 0x00#6 rs rt rd 0x00#5 0x23#6
  | .slt rs rt rd => encR 0x00#6 rs rt rd 0x00#5 0x2A#6
  | .sltu rs rt rd => encR 0x00#6 rs rt rd 0x00#5 0x2B#6
  | .and_ rs rt rd => encR 0x00#6 rs rt rd 0x00#5 0x24#6
  | .or_ rs rt rd => encR 0x00#6 rs rt rd 0x00#5 0x25#6
  | .xor_ rs rt rd => encR 0x00#6 rs rt rd 0x00#5 0x26#6
  | .nor_ rs rt rd => encR 0x00#6 rs rt rd 0x00#5 0x27#6
  | .addi rs rt imm => encI 0x08#6 rs rt imm
  | .addiu rs rt imm => encI 0x09#6 rs rt imm
  | .slti rs rt imm => encI 0x0A#6 rs rt imm
  | .sltiu rs rt imm => encI 0x0B#6 rs rt imm
  | .andi rs rt imm => encI 0x0C#6 rs rt imm
  | .ori rs rt imm => encI 0x0D#6 rs rt imm
  | .xori rs rt imm => encI 0x0E#6 rs rt imm
  | .lui rt imm => encI 0x0F#6 0x00#5 rt imm
  | .nop => encR 0x00#6 0x00#5 0x00#5 0x00#5 0x00#5 0x00#6
  | .ssnop => encR 0x00#6 0x00#5 0x00#5 0x00#5 0x01#5 0x00#6
  | .ehb => encR 0x00#6 0x00#5 0x00#5 0x00#5 0x03#5 0x00#6
  | .sll rt rd sa => encR 0x00#6 0x00#5 rt rd sa 0x00#6
  | .srl rt rd sa => encR 0x00#6 0x00#5 rt rd sa 0x02#6
  | .sra rt rd sa => encR 0x00#6 0x00#5 rt rd sa 0x03#6
  | .sllv rs rt rd => encR 0x00#6 rs rt rd 0x00#5 0x04#6
  | .srlv rs rt rd => encR 0x00#6 rs rt rd 0x00#5 0x06#6
  | .srav rs rt rd => encR 0x00#6 rs rt rd 0x00#5 0x07#6
  | .rotr rt rd sa => encR 0x00#6 0x01#5 rt rd sa 0x02#6
  | .rotrv rs rt rd => encR 0x00#6 rs rt rd 0x01#5 0x06#6
  | .clz rs rt rd => encR 0x1C#6 rs rt rd 0x00#5 0x20#6
  | .clo rs rt rd => encR 0x1C#6 rs rt rd 0x00#5 0x21#6
  | .ext rs rt msbd lsb => encR 0x1F#6 rs rt msbd lsb 0x00#6
  | .ins rs rt msb lsb => encR 0x1F#6 rs rt msb lsb 0x04#6
  | .seb rt rd => encR 0x1F#6 0x00#5 rt rd 0x10#5 0x20#6
  | .seh rt rd => encR 0x1F#6 0x00#5 rt rd 0x18#5 0x20#6
  | .wsbh rt rd => encR 0x1F#6 0x00#5 rt rd 0x02#5 0x20#6
  | .mult rs rt => encR 0x00#6 rs rt 0x00#5 0x00#5 0x18#6
  | .multu rs rt => encR 0x00#6 rs rt 0x00#5 0x00#5 0x19#6
  | .mul rs rt rd => encR 0x1C#6 rs rt rd 0x00#5 0x02#6
  | .madd rs rt => encR 0x1C#6 rs rt 0x00#5 0x00#5 0x00#6
  | .maddu rs rt => encR 0x1C#6 rs rt 0x00#5 0x00#5 0x01#6
  | .msub rs rt => encR 0x1C#6 rs rt 0x00#5 0x00#5 0x04#6
  | .msubu rs rt => encR 0x1C#6 rs rt 0x00#5 0x00#5 0x05#6
  | .div rs rt => encR 0x00#6 rs rt 0x00#5 0x00#5 0x1A#6
  | .divu rs rt => encR 0x00#6 rs rt 0x00#5 0x00#5 0x1B#6
  | .mfhi rd => encR 0x00#6 0x00#5 0x00#5 rd 0x00#5 0x10#6
  | .mflo rd => encR 0x00#6 0x00#5 0x00#5 rd 0x00#5 0x12#6
  | .mthi rs => encR 0x00#6 rs 0x00#5 0x00#5 0x00#5 0x11#6
  | .mtlo rs => encR 0x00#6 rs 0x00#5 0x00#5 0x00#5 0x13#6
  | .j index => encJ 0x02#6 index
  | .jal index => encJ 0x03#6 index
  | .jr rs => encR 0x00#6 rs 0x00#5 0x00#5 0x00#5 0x08#6
  | .jalr rs rd => encR 0x00#6 rs 0x00#5 rd 0x00#5 0x09#6
  | .jrHb rs => encR 0x00#6 rs 0x00#5 0x00#5 0x10#5 0x08#6
  | .jalrHb rs rd => encR 0x00#6 rs 0x00#5 rd 0x10#5 0x09#6
  | .jalx index => encJ 0x1D#6 index
  | .beq rs rt offset => encI 0x04#6 rs rt offset
  | .bne rs rt offset => encI 0x05#6 rs rt offset
  | .blez rs offset => encI 0x06#6 rs 0x00#5 offset
  | .bgtz rs offset => encI 0x07#6 rs 0x00#5 offset
  | .bltz rs offset => encI 0x01#6 rs 0x00#5 offset
  | .bgez rs offset => encI 0x01#6 rs 0x01#5 offset
  | .bltzal rs offset => encI 0x01#6 rs 0x10#5 offset
  | .bgezal rs offset => encI 0x01#6 rs 0x11#5 offset
  | .bltzl rs offset => encI 0x01#6 rs 0x02#5 offset
  | .bgezl rs offset => encI 0x01#6 rs 0x03#5 offset
  | .bltzall rs offset => encI 0x01#6 rs 0x12#5 offset
  | .bgezall rs offset => encI 0x01#6 rs 0x13#5 offset
  | .beql rs rt offset => encI 0x14#6 rs rt offset
  | .bnel rs rt offset => encI 0x15#6 rs rt offset
  | .blezl rs offset => encI 0x16#6 rs 0x00#5 offset
  | .bgtzl rs offset => encI 0x17#6 rs 0x00#5 offset
  | .sync stype => encR 0x00#6 0x00#5 0x00#5 0x00#5 stype 0x0F#6
  | .synci base offset => encI 0x01#6 base 0x1F#5 offset
  | .syscall code => encCode 0x00#6 code 0x0C#6
  | .break_ code => encCode 0x00#6 code 0x0D#6
  | .tge rs rt code => encTrap rs rt code 0x30#6
  | .tgeu rs rt code => encTrap rs rt code 0x31#6
  | .tlt rs rt code => encTrap rs rt code 0x32#6
  | .tltu rs rt code => encTrap rs rt code 0x33#6
  | .teq rs rt code => encTrap rs rt code 0x34#6
  | .tne rs rt code => encTrap rs rt code 0x36#6
  | .tgei rs imm => encI 0x01#6 rs 0x08#5 imm
  | .tgeiu rs imm => encI 0x01#6 rs 0x09#5 imm
  | .tlti rs imm => encI 0x01#6 rs 0x0A#5 imm
  | .tltiu rs imm => encI 0x01#6 rs 0x0B#5 imm
  | .teqi rs imm => encI 0x01#6 rs 0x0C#5 imm
  | .tnei rs imm => encI 0x01#6 rs 0x0E#5 imm
  | .sdbbp code => encCode 0x1C#6 code 0x3F#6
  | .movn rs rt rd => encR 0x00#6 rs rt rd 0x00#5 0x0B#6
  | .movz rs rt rd => encR 0x00#6 rs rt rd 0x00#5 0x0A#6
  | .movci rs cc b17 tf rd low => encMovci rs cc b17 tf rd low
  | .rdhwr rt rd => encR 0x1F#6 0x00#5 rt rd 0x00#5 0x3B#6
  | .pref base hint offset => encI 0x33#6 base hint offset
  | .cache base op offset => encI 0x2F#6 base op offset
  | .mfc0 rt rd sel => encSel 0x00#5 rt rd sel
  | .mtc0 rt rd sel => encSel 0x04#5 rt rd sel
  | .di rt => encR 0x10#6 0x0B#5 rt 0x0C#5 0x00#5 0x00#6
  | .ei rt => encR 0x10#6 0x0B#5 rt 0x0C#5 0x00#5 0x20#6
  | .rdpgpr rt rd => encR 0x10#6 0x0A#5 rt rd 0x00#5 0x00#6
  | .wrpgpr rt rd => encR 0x10#6 0x0E#5 rt rd 0x00#5 0x00#6
  | .eret => encCo 0#19 0x18#6
  | .deret => encCo 0#19 0x1F#6
  | .wait code => encCo code 0x20#6
  | .tlbr => encCo 0#19 0x01#6
  | .tlbwi => encCo 0#19 0x02#6
  | .tlbwr => encCo 0#19 0x06#6
  | .tlbp => encCo 0#19 0x08#6
  | .cop1 bits => encJ 0x11#6 bits
  | .cop2 bits => encJ 0x12#6 bits
  | .cop1x bits => encJ 0x13#6 bits
  | .lwc1 base ft offset => encI 0x31#6 base ft offset
  | .ldc1 base ft offset => encI 0x35#6 base ft offset
  | .swc1 base ft offset => encI 0x39#6 base ft offset
  | .sdc1 base ft offset => encI 0x3D#6 base ft offset
  | .lwc2 base rt offset => encI 0x32#6 base rt offset
  | .ldc2 base rt offset => encI 0x36#6 base rt offset
  | .swc2 base rt offset => encI 0x3A#6 base rt offset
  | .sdc2 base rt offset => encI 0x3E#6 base rt offset

end Sys2Proof
end

