-- ==== Sys2Proof/Config.lean ====
section
/-! DEFINITION. Sys2Proof/Config.lean: what an implementation of the core fixes (00_scope.md R10), and the
values the spec leaves free (93_implementation_defined.md). A parameter with a documented default, or one the
platform supplies, is a field of the plain structure `Config`, which `State.cfg` holds and no step changes.
A value that the spec leaves open is a constant without a body: nothing can be proved about which value it is. -/

namespace Sys2Proof

/-- `HSS`, the highest shadow set number: 0, 1 or 3 (10_state.md R23, R51). -/
inductive ShadowSets where
  /-- HSS = 0: only the normal registers. -/
  | one
  /-- HSS = 1: two sets, the documented default. -/
  | two
  /-- HSS = 3: four sets. -/
  | four
deriving DecidableEq, Repr

/-- The value of SRSCtl.HSS (10_state.md R51). -/
def ShadowSets.hss : ShadowSets → SetNum
  | .one => 0#2
  | .two => 1#2
  | .four => 3#2

/-- Which of the four addresses of a peripheral register is accessed (20_memory.md R136). -/
inductive RegKind where
  /-- The base address: normal read and write. -/
  | base
  /-- The clear address. -/
  | clr
  /-- The set address. -/
  | set
  /-- The invert address. -/
  | inv
deriving DecidableEq, Repr

/-- What a physical word holds (20_memory.md R131). -/
inductive Target where
  /-- Plain storage. -/
  | ram
  /-- Storage that loads and fetches read; a store to it is outside the spec. -/
  | flash
  /-- The peripheral register number `reg`, reached through its address of kind `kind`. -/
  | device (reg : Nat) (kind : RegKind)
  /-- Nothing (`none` of R131): the bus rejects the access (R135). -/
  | absent
deriving DecidableEq, Repr

/-- A range of physical addresses and what it holds for fetches, loads and stores (20_memory.md R131). -/
structure Region where
  /-- First physical address. -/
  base : Nat
  /-- Number of bytes. -/
  size : Nat
  /-- What an instruction fetch finds. -/
  fetch : Target
  /-- What a load finds. -/
  load : Target
  /-- What a store finds. -/
  store : Target
deriving DecidableEq, Repr

/-- The four words of one peripheral register at physical address `a`: base, clear at + 4, set at + 8, invert
at + 12 (20_memory.md R136). A fetch finds the register too, and is refused (R140). -/
def deviceBlock (a reg : Nat) : List Region :=
  [(0, RegKind.base), (4, RegKind.clr), (8, RegKind.set), (12, RegKind.inv)].map fun (o, k) =>
    { base := a + o, size := 4, fetch := .device reg k, load := .device reg k, store := .device reg k }

/-- `BusErrorMode` (60_exceptions.md R478). -/
inductive BusErrorMode where
  /-- A bus error ends the run with a fault: the documented default. -/
  | fault
  /-- A bus error is the precise exception IBE or DBE. -/
  | precise
deriving DecidableEq, Repr

/-- `FetchCoherence` (20_memory.md R149). -/
inductive FetchCoherence where
  /-- A stored word may be fetched only after SYNCI and a barrier: the documented default. -/
  | barrier
  /-- A fetch sees every earlier store. -/
  | always
deriving DecidableEq, Repr

/-- What an event that would enter Debug mode does (60_exceptions.md R529; log entry 18). -/
inductive DebugEntry where
  /-- It is refused: the spec's ruling (92_eei_decisions.md D22), the default. -/
  | refuse
  /-- The entry that R529 reads from the register descriptions is made, at `DebugVector` (R530). -/
  | enter
deriving DecidableEq, Repr

/-- The parameters of 00_scope.md R10 that have a documented default or are the platform's. -/
structure Config where
  /-- `HSS` (10_state.md R23). -/
  shadowSets : ShadowSets
  /-- `HasTrace` (10_state.md R83). -/
  hasTrace : Bool
  /-- `HasComplexBreak` (10_state.md R88). -/
  hasComplexBreak : Bool
  /-- `PhysMap` (20_memory.md R131): the first region that holds an address decides; no region: nothing is there. -/
  physMap : List Region
  /-- `BusErrorMode` (60_exceptions.md R478). -/
  busErrorMode : BusErrorMode
  /-- `EJTAGBOOT` (70_reset_and_hazards.md R552). -/
  ejtagBoot : Bool
  /-- `FetchCoherence` (20_memory.md R149). -/
  fetchCoherence : FetchCoherence
  /-- Whether Debug mode can be entered (60_exceptions.md R529; log entry 18). -/
  debugEntry : DebugEntry
deriving DecidableEq, Repr

/-- The target is a peripheral register. -/
def Target.isDevice : Target → Bool
  | .device _ _ => true
  | .ram | .flash | .absent => false

/-- A region that reaches into physical 0x40000000 to 0xBFFFFFFF, which useg maps to, holds no peripheral register
(20_memory.md R134). -/
def Region.userOk (r : Region) : Bool :=
  decide (0xC0000000 ≤ r.base) || decide (r.base + r.size ≤ 0x40000000) ||
    !(r.fetch.isDevice || r.load.isDevice || r.store.isDevice)

/-- The constraint on `PhysMap` of 20_memory.md R134: no peripheral register can be reached from useg. -/
def Config.userWindowOk (c : Config) : Bool := c.physMap.all Region.userOk

/-- The boot Flash around physical 0x1FC00000, the one point of the map the spec fixes (20_memory.md R133,
70_reset_and_hazards.md R553). Its size is a DESIGN CHOICE (log entry 3). -/
def Config.bootFlash : Region :=
  { base := 0x1FC00000, size := 0x400000, fetch := .flash, load := .flash, store := .flash }

/-- Everything else as RAM: DESIGN CHOICE, the spec names no default map (log entry 3). -/
def Config.allRam : Region :=
  { base := 0, size := 0x100000000, fetch := .ram, load := .ram, store := .ram }

/-- The documented defaults of 00_scope.md R10, with the map of log entry 3. -/
def Config.default : Config where
  shadowSets := .two
  hasTrace := false
  hasComplexBreak := false
  physMap := [Config.bootFlash, Config.allRam]
  busErrorMode := .fault
  ejtagBoot := false
  fetchCoherence := .barrier
  debugEntry := .refuse

/-! ## Parameters without a documented value (log entry 5) -/

/-- `PRID_REV`, PRID bits 7:0 (10_state.md R60: "R-x"). -/
opaque Config.pridRev : BitVec 8

/-- The word address of `DebugVector` (60_exceptions.md R530: not given, OPEN). -/
opaque Config.debugVectorWord : BitVec 30

/-- Whether `Cop1xCE` is 3; otherwise it is 1 (44_coprocessor.md R443: OPEN). -/
opaque Config.cop1xIsThree : Bool

/-! ## Free values (log entry 6): each is applied to the counter `State.freeIdx` -/

/-- A free 32-bit value, the spec's `any32()` (00_scope.md R13). -/
opaque Config.freeWord : Nat → Word

/-- A free value of Cause.CE (93_implementation_defined.md U9). -/
opaque Config.freeCE : Nat → BitVec 2

/-- A free bit: LLbit after SC (40_load_store.md R234), Debug.HALT and Debug.DOZE (U15). -/
opaque Config.freeBit : Nat → Bool

/-- A free value of Debug.DEXCCODE (93_implementation_defined.md U15). -/
opaque Config.freeCode : Nat → BitVec 5

end Sys2Proof
end

