-- ==== Sys2Proof/Machine/State.lean ====
section
/-! DEFINITION. Sys2Proof/Machine/State.lean: the state of the core as plain data, the reasons a step can stop,
and the state after reset (10_state.md R20 to R92, 70_reset_and_hazards.md R550 to R558). -/

namespace Sys2Proof.Machine

open Sys2Proof

/-! ## Coprocessor 0 -/

/-- The implemented bits of Status (10_state.md R37 to R48). -/
structure Status where
  /-- CU0, bit 28 (R38). -/
  cu0 : Bool
  /-- RP, bit 27 (R39). -/
  rp : Bool
  /-- RE, bit 25 (R40). -/
  re : Bool
  /-- BEV, bit 22 (R41). -/
  bev : Bool
  /-- SR, bit 20 (R42). -/
  sr : Bool
  /-- NMI, bit 19 (R43). -/
  nmi : Bool
  /-- IPL, bits 12:10 (R44). -/
  ipl : BitVec 3
  /-- UM, bit 4 (R45). -/
  um : Bool
  /-- ERL, bit 2 (R46). -/
  erl : Bool
  /-- EXL, bit 1 (R47). -/
  exl : Bool
  /-- IE, bit 0 (R48). -/
  ie : Bool
deriving DecidableEq, Repr

/-- The stored fields of SRSCtl (10_state.md R53 to R55). HSS is `Config.shadowSets` (R51), EICSS is the input
`IntReq.eicss` (R52). The fields are 4 bits wide and never above 3, so 2 bits are held (log entry 31). -/
structure SrsCtl where
  /-- ESS, bits 15:12 (R53). -/
  ess : SetNum
  /-- PSS, bits 9:6 (R54). -/
  pss : SetNum
  /-- CSS, bits 3:0 (R55). -/
  css : SetNum
deriving DecidableEq, Repr

/-- The stored fields of Cause (10_state.md R57 to R59). RIPL is the input `IntReq.ripl` (R59). -/
structure Cause where
  /-- BD, bit 31 (R58). -/
  bd : Bool
  /-- TI, bit 30 (R58). -/
  ti : Bool
  /-- CE, bits 29:28 (R58). -/
  ce : BitVec 2
  /-- DC, bit 27 (R59). -/
  dc : Bool
  /-- IV, bit 23 (R59). -/
  iv : Bool
  /-- IP1, bit 9 (R59). -/
  ip1 : Bool
  /-- IP0, bit 8 (R59). -/
  ip0 : Bool
  /-- EXCCODE, bits 6:2 (R59). -/
  excCode : BitVec 5
deriving DecidableEq, Repr

/-- The cause bits Debug[6:0] (10_state.md R75). -/
structure DebugCauses where
  /-- DIBIMPR, bit 6. -/
  dibimpr : Bool
  /-- DINT, bit 5. -/
  dint : Bool
  /-- DIB, bit 4. -/
  dib : Bool
  /-- DDBS, bit 3. -/
  ddbs : Bool
  /-- DDBL, bit 2. -/
  ddbl : Bool
  /-- DBP, bit 1. -/
  dbp : Bool
  /-- DSS, bit 0. -/
  dss : Bool
deriving DecidableEq, Repr

/-- The stored fields of Debug (10_state.md R70 to R76); the others are constants. -/
structure Debug where
  /-- DBD, bit 31 (R72). -/
  dbd : Bool
  /-- DM, bit 30 (R72). -/
  dm : Bool
  /-- LSNM, bit 28 (R72). -/
  lsnm : Bool
  /-- DOZE, bit 27 (R72). -/
  doze : Bool
  /-- HALT, bit 26 (R72). -/
  halt : Bool
  /-- COUNTDM, bit 25 (R72). -/
  countdm : Bool
  /-- IBUSEP, bit 24 (R73). -/
  ibusep : Bool
  /-- DBUSEP, bit 21 (R73). -/
  dbusep : Bool
  /-- IEXI, bit 20 (R73). -/
  iexi : Bool
  /-- DEXCCODE, bits 14:10 (R74). -/
  dexcCode : BitVec 5
  /-- SST, bit 8 (R74). -/
  sst : Bool
  /-- Bits 6:0 (R75). -/
  causes : DebugCauses
deriving DecidableEq, Repr

/-- The Coprocessor 0 registers (10_state.md R30). Registers without a stored field (PRID, Config1 to Config3,
the constant fields) are computed by the one operation that reads a CP0 register. -/
structure Cp0 where
  /-- HWREna.MASK, bits 3:0 (R33). -/
  hwrEna : BitVec 4
  /-- BadVAddr (R34). -/
  badVAddr : Word
  /-- Count (R35). -/
  count : Word
  /-- Compare (R36). -/
  compare : Word
  /-- Status (R37). -/
  status : Status
  /-- IntCtl.VS, bits 9:5 (R49). -/
  vs : BitVec 5
  /-- SRSCtl (R50). -/
  srs : SrsCtl
  /-- SRSMap (R56). -/
  srsMap : Word
  /-- Cause (R57). -/
  cause : Cause
  /-- EPC (R61). -/
  epc : Word
  /-- Ebase.EBASE, bits 29:12 (R62). -/
  ebase : BitVec 18
  /-- Config.KU, bits 27:25 (R64). -/
  ku : BitVec 3
  /-- Config.K0, bits 2:0 (R64). -/
  k0 : BitVec 3
  /-- Debug (R70). -/
  dbg : Debug
  /-- TraceControl (R84). -/
  traceControl : Word
  /-- TraceControl2 bits 4:0: TBI, TBU, SYP (R85), as the Trace Control Block asserted them last. -/
  tcb : BitVec 5
  /-- The Trace Control Block has asserted those fields (R85: they have no valid values until it does). -/
  tcbLoaded : Bool
  /-- UserTraceData (R86). -/
  userTraceData : Word
  /-- TraceBPC (R87). -/
  traceBPC : Word
  /-- Debug2 bits 3:0: PRM, DQ, TUP, PACO (R88). -/
  debug2 : BitVec 4
  /-- DEPC (R89). -/
  depc : Word
  /-- ErrorEPC (R90). -/
  errorEpc : Word
  /-- DeSAVE (R91). -/
  deSave : Word
deriving DecidableEq, Repr

/-- The names of the CP0 registers (10_state.md R30); `reserved` is every other number and select (R31). -/
inductive Cp0Reg where
  | hwrEna | badVAddr | count | compare | status | intCtl | srsCtl | srsMap | cause | epc | prid | ebase
  | config | config1 | config2 | config3 | debugReg | traceControl | traceControl2 | userTraceData | traceBPC
  | debug2 | depc | errorEpc | deSave | reserved
deriving DecidableEq, Repr

/-! ## The other pieces of state -/

/-- A branch or jump whose delay slot is the next instruction (10_state.md R29, 42_jump_branch.md R340). -/
structure DelaySlot where
  /-- `B`, the address of the branch or jump. -/
  branch : Word
  /-- Where execution goes after the slot: the target, or `B + 8`. -/
  target : Word
  /-- The ISAMode after the slot (R345). -/
  isa : Bool
  /-- The jump is JR.HB or JALR.HB: hazards are cleared before the target is fetched (R350). -/
  barrier : Bool
deriving DecidableEq, Repr

/-- The input from the interrupt controller (60_exceptions.md R497). -/
structure IntReq where
  /-- The requested priority level, 0 for no request. -/
  ripl : BitVec 3
  /-- The vector number. -/
  vector : BitVec 6
  /-- The shadow set number (held in 2 bits, log entry 31). -/
  eicss : SetNum
deriving DecidableEq, Repr

/-- How far a word written to memory has been made visible to instruction fetch (20_memory.md R149). -/
inductive CodeState where
  /-- Not written since the last synchronization: a fetch returns what memory holds. -/
  | clean
  /-- Stored to by the CPU. -/
  | stored
  /-- Stored to, then named by a SYNCI; a barrier is still to come. -/
  | synced
  /-- Written by another bus master. -/
  | foreign
deriving DecidableEq, Repr

/-- The rows of Table 2-1 (70_reset_and_hazards.md R571), but for the row of spacing 0. -/
inductive HazardRow where
  /-- Coprocessor usability on Status.CU0: spacing 1. -/
  | cu0
  /-- ERET or DERET on EPC, DEPC, ErrorEPC: spacing 1. -/
  | returnPc
  /-- The interrupted instruction on Status.IE: spacing 1. -/
  | ie
  /-- The interrupted instruction on Cause.IP1, IP0: spacing 3. -/
  | ip
  /-- RDPGPR, WRPGPR on SRSCtl.PSS: spacing 1. -/
  | pss
  /-- The timer interrupt on a Compare write: spacing 4. -/
  | compare
  /-- An instruction affected by a change of any CP0 register: spacing 2. -/
  | other
deriving DecidableEq, Repr

/-- One counter of the hazard scoreboard (70_reset_and_hazards.md R574). -/
structure Hazard where
  /-- The row of Table 2-1. -/
  row : HazardRow
  /-- The register the creating instruction changed. -/
  reg : Cp0Reg
  /-- Coprocessor 0 before the change. -/
  old : Cp0
  /-- How many instructions after the current one still come too close. -/
  left : Nat
deriving DecidableEq, Repr

/-- The debug exceptions (60_exceptions.md R528). -/
inductive DebugCause where
  | dibimpr | dint | dib | ddbs | ddbl | dbp | dss
deriving DecidableEq, Repr

/-- What the environment can do between two instructions (92_eei_decisions.md, Agents; log entry 11). -/
inductive EnvEvent where
  /-- Nothing: the core executes one instruction, or goes on waiting in WAIT. -/
  | cpu
  /-- The wait of a WAIT ends (44_coprocessor.md R439). -/
  | wake
  /-- `CountTick` (60_exceptions.md R520). -/
  | tick
  /-- The interrupt controller presents another request (60_exceptions.md R497). -/
  | intReq (r : IntReq)
  /-- The core takes the interrupt that is requested, if it is takeable (60_exceptions.md R500). -/
  | interrupt
  /-- The NMI input (60_exceptions.md R507). -/
  | nmi
  /-- Reset, Soft Reset or a watchdog reset (70_reset_and_hazards.md R550). -/
  | reset
  /-- A debug exception that the EJTAG hardware raises (60_exceptions.md R528, R529). -/
  | debugException (c : DebugCause)
  /-- Another bus master writes the byte lanes `enable` of the word at `pa` (20_memory.md R150). -/
  | busWrite (pa : Word) (enable : BitVec 4) (w : Word)
  /-- A peripheral register changes (20_memory.md R150). -/
  | device (reg : Nat) (v : Word)
  /-- The Trace Control Block asserts TraceControl2.TBI, TBU and SYP (10_state.md R85). -/
  | tcb (v : BitVec 5)
deriving DecidableEq, Repr

/-- The state of the machine. -/
structure State where
  /-- The register file: `SGPR[s][i]` at index `32 * s + i` (10_state.md R20, R23). -/
  gprs : Vector Word 128
  /-- HI (10_state.md R25). -/
  hi : Word
  /-- LO (10_state.md R25). -/
  lo : Word
  /-- The program counter (10_state.md R26). -/
  pc : Word
  /-- ISAMode: true is MIPS16e (10_state.md R27). -/
  isaMode : Bool
  /-- Set while the next instruction is in a delay slot (10_state.md R29). -/
  delaySlot : Option DelaySlot
  /-- LLbit (10_state.md R28). -/
  llbit : Bool
  /-- The waiting state of WAIT (44_coprocessor.md R439). -/
  waiting : Bool
  /-- The Coprocessor 0 registers (10_state.md R30). -/
  cp0 : Cp0
  /-- The bytes of the physical address space, in canonical form (20_memory.md R120, R131). -/
  mem : List Host.Cell
  /-- The peripheral registers by number, in canonical form (20_memory.md R136). -/
  devRegs : List (Nat × Word)
  /-- The words of memory that a fetch may not yet see, by physical address, in canonical form (20_memory.md R149). -/
  codeWords : List (Nat × CodeState)
  /-- The scoreboard of Table 2-1 (70_reset_and_hazards.md R574). -/
  hazards : List Hazard
  /-- The Status values under which a fetch may still be made, Table 2-2 (70_reset_and_hazards.md R572). -/
  staleStatus : List Status
  /-- The request of the interrupt controller (60_exceptions.md R497). -/
  intReq : IntReq
  /-- The model's own: what the environment does next (log entry 11). -/
  schedule : List EnvEvent
  /-- The model's own: how many free values have been drawn (log entry 6). -/
  freeIdx : Nat
  /-- The parameters (00_scope.md R10); no step changes them. -/
  cfg : Config
deriving DecidableEq, Repr

/-! ## How a step can stop -/

/-- A fault ends the run as the program's error. -/
inductive Fault where
  /-- Raised by the fetch of a word the bus rejects, at virtual address `vaddr`, while `BusErrorMode` is `fault`
  (60_exceptions.md R478). Safe: nothing is claimed of what follows. -/
  | fetchBusError (vaddr : Word)
  /-- Raised by a load or store the bus rejects, at virtual address `vaddr`, while `BusErrorMode` is `fault`
  (60_exceptions.md R478). Safe: nothing is claimed of what follows. -/
  | dataBusError (vaddr : Word)
deriving DecidableEq, Repr

/-- A refusal: the spec gives the situation no meaning. Every one is safe: nothing is claimed of what follows. -/
inductive Refusal where
  /-- Raised by `exec` for an instruction that has no meaning yet, and by nothing else. Safe. -/
  | notModelled (mnemonic : String)
  /-- Raised where the core, in MIPS16e mode, would fetch or take an exception: no source describes the MIPS16e
  instructions (45_mips16e.md R465, R466). Safe. -/
  | mips16e
  /-- Raised by a branch, jump, ERET or DERET in a delay slot (42_jump_branch.md R343, U1). Safe. -/
  | controlInDelaySlot
  /-- Raised by WAIT in a delay slot (44_coprocessor.md R439, U13). Safe. -/
  | waitInDelaySlot
  /-- Raised by a linking jump or branch that reads its link register (42_jump_branch.md R341). Safe. -/
  | readsLinkRegister
  /-- Raised by EXT and INS with an impossible bit range (41_computational.md R290, R291, U10). Safe. -/
  | bitRange
  /-- Raised by CLZ and CLO whose `rt` field is not `rd` (41_computational.md R288, R289). Safe. -/
  | countFields
  /-- Raised by a word with a must-be-zero field that is not zero (30_encoding.md R197). Safe. -/
  | mustBeZero
  /-- Raised by a load or store in User mode with Status.RE = 1 (20_memory.md R125). Safe. -/
  | reverseEndian
  /-- Raised by an access to dseg in Debug mode: its contents are in no source (20_memory.md R123). Safe. -/
  | dseg
  /-- Raised by a store to Flash, the CPU's or another bus master's: outside the spec (20_memory.md R131). Safe. -/
  | flashStore
  /-- Raised by a fetch from a peripheral register (20_memory.md R140). Safe. -/
  | deviceFetch
  /-- Raised by a fetch of a word the CPU stored to, before SYNCI and a barrier (20_memory.md R149). Safe. -/
  | fetchNotSynchronized
  /-- Raised by a fetch of a word another bus master wrote: outside the spec (20_memory.md R149). Safe. -/
  | fetchForeignCode
  /-- Raised by MTC0 of a reserved IntCtl.VS value (U2). Safe. -/
  | reservedVectorSpacing
  /-- Raised by MTC0 of a shadow set number above HSS, and by an IntReq with one (U3). Safe. -/
  | shadowSetAboveHss
  /-- Raised by MTC0 that changes Ebase with Status.BEV = 0 (U4). Safe. -/
  | ebaseWithoutBev
  /-- Raised by MTC0 of a reserved cache coherency attribute (U5). Safe. -/
  | reservedCoherency
  /-- Raised by MTC0 that sets Status.ERL while executing from kuseg (U6). Safe. -/
  | erlInKuseg
  /-- Raised by MTC0 to Debug outside Debug mode (U7). Safe. -/
  | debugWriteOutsideDebugMode
  /-- Raised by MTC0 to SRSMap with HSS = 0 (U14). Safe. -/
  | srsMapAbsent
  /-- Raised by TLBR, TLBWI, TLBWR and TLBP where Coprocessor 0 is usable (44_coprocessor.md R440). Safe. -/
  | noTlb
  /-- Raised by an instruction or an exception entry that sees an execution hazard (70_reset_and_hazards.md R574). Safe. -/
  | executionHazard
  /-- Raised by a fetch that sees the instruction hazard of Table 2-2 (70_reset_and_hazards.md R574). Safe. -/
  | instructionHazard
  /-- Raised by a reset with EJTAGBOOT (70_reset_and_hazards.md R552). Safe. -/
  | ejtagBoot
  /-- Raised by every event that would enter Debug mode, while `DebugEntry` is `refuse` (60_exceptions.md R529,
  43_miscellaneous.md R404). Safe. -/
  | debugModeEntry
deriving DecidableEq, Repr

/-- The three outcomes of a step of this machine. -/
abbrev Out := Host.Outcome State Fault Refusal

/-! ## The state after reset (10_state.md R92, 70_reset_and_hazards.md R551, R553) -/

/-- Status after reset: BEV, SR and ERL are 1, RP and NMI 0; the others have no reset value (log entry 1). -/
def Status.reset : Status :=
  { cu0 := false, rp := false, re := false, bev := true, sr := true, nmi := false, ipl := 0#3, um := false,
    erl := true, exl := false, ie := false }

/-- Cause after reset: DC is 0, the others have no reset value (log entry 1). -/
def Cause.reset : Cause :=
  { bd := false, ti := false, ce := 0#2, dc := false, iv := false, ip1 := false, ip0 := false, excCode := 0#5 }

/-- No debug cause bit set. -/
def DebugCauses.none : DebugCauses :=
  { dibimpr := false, dint := false, dib := false, ddbs := false, ddbl := false, dbp := false, dss := false }

/-- Debug after reset: COUNTDM is 1, the other fields 0; bits 6:0 have no reset value (log entry 1). -/
def Debug.reset : Debug :=
  { dbd := false, dm := false, lsnm := false, doze := false, halt := false, countdm := true, ibusep := false,
    dbusep := false, iexi := false, dexcCode := 0#5, sst := false, causes := .none }

/-- Coprocessor 0 after reset (10_state.md R92); fields without a reset value are log entry 1. -/
def Cp0.reset : Cp0 :=
  { hwrEna := 0#4, badVAddr := 0#32, count := 0#32, compare := 0#32, status := .reset, vs := 0#5,
    srs := { ess := 0#2, pss := 0#2, css := 0#2 }, srsMap := 0#32, cause := .reset, epc := 0#32, ebase := 0#18,
    ku := 0b010#3, k0 := 0b010#3, dbg := .reset, traceControl := 0x00000010#32, tcb := 0#5,
    tcbLoaded := false, userTraceData := 0#32, traceBPC := 0#32, debug2 := 0#4, depc := 0#32, errorEpc := 0#32, deSave := 0#32 }

/-- The machine right after power-up reset: fetching from 0xBFC00000 in Kernel mode, nothing listed in memory,
a quiet environment (log entries 1 to 5, 11). -/
def State.reset : State :=
  { gprs := Vector.replicate 128 0#32, hi := 0#32, lo := 0#32, pc := 0xBFC00000#32, isaMode := false,
    delaySlot := none, llbit := false, waiting := false, cp0 := .reset, mem := [], devRegs := [], codeWords := [],
    hazards := [], staleStatus := [], intReq := { ripl := 0#3, vector := 0#6, eicss := 0#2 }, schedule := [],
    freeIdx := 0, cfg := .default }

end Sys2Proof.Machine
end

