-- ==== Sys2Proof/Machine/Memory.lean ====
section
/-! DEFINITION. Sys2Proof/Machine/Memory.lean: sparse stores in canonical form, the bytes and words of memory,
the peripheral registers, and the physical map (20_memory.md R120 to R139). -/

namespace Sys2Proof.Machine

open Sys2Proof

/-! ## Sparse stores: pairs of a key and a value, every unlisted key holding the default `d` -/

/-- The value at key `a`. -/
def sparseGet {α : Type} (d : α) : List (Nat × α) → Nat → α
  | [], _ => d
  | (k, v) :: t, a => if k = a then v else sparseGet d t a

/-- The store without key `a`. -/
def sparseErase {α : Type} (l : List (Nat × α)) (a : Nat) : List (Nat × α) :=
  l.filter fun c => c.1 != a

/-- The entry `(a, v)` put before the first greater key. -/
def sparsePlace {α : Type} (a : Nat) (v : α) : List (Nat × α) → List (Nat × α)
  | [] => [(a, v)]
  | (k, w) :: t => if a < k then (a, v) :: (k, w) :: t else (k, w) :: sparsePlace a v t

/-- The store with `v` at key `a`; the default is not listed. -/
def sparsePut {α : Type} [DecidableEq α] (d : α) (l : List (Nat × α)) (a : Nat) (v : α) : List (Nat × α) :=
  if v = d then sparseErase l a else sparsePlace a v (sparseErase l a)

/-- Keys strictly rising and no entry equal to the default. -/
def sparseCanonical {α : Type} [DecidableEq α] (d : α) : List (Nat × α) → Bool
  | [] => true
  | (k, v) :: t => decide (v ≠ d) && t.all (fun c => decide (k < c.1)) && sparseCanonical d t

/-! ## Memory -/

/-- What a byte of memory that nothing has written reads as: DESIGN CHOICE (log entry 2). -/
def unwrittenByte : Byte := 0x00#8

/-- The canonical form of memory: addresses strictly rising, no entry equal to `unwrittenByte`. -/
def Memory.wf (m : List Host.Cell) : Bool := sparseCanonical unwrittenByte m

/-- The byte at a physical address (20_memory.md R131). -/
def readByte (m : List Host.Cell) (pa : Nat) : Byte := sparseGet unwrittenByte m pa

/-- Memory with byte `b` at a physical address. -/
def writeByte (m : List Host.Cell) (pa : Nat) (b : Byte) : List Host.Cell := sparsePut unwrittenByte m pa b

/-- The physical address of the aligned word that holds `a` (20_memory.md R126). -/
def wordAddr (a : Word) : Nat := a.toNat / 4 * 4

/-- The place of `a` inside its aligned word, `a[1:0]` (40_load_store.md R226). -/
def laneOf (a : Word) : Nat := a.toNat % 4

/-- The little-endian word at a word address (20_memory.md R124). -/
def readWord (m : List Host.Cell) (wa : Nat) : Word :=
  wordOfBytes (readByte m wa) (readByte m (wa + 1)) (readByte m (wa + 2)) (readByte m (wa + 3))

/-- Byte lane `k` of `w` written at a word address when its enable is set (20_memory.md R141). -/
def writeLane (en : BitVec 4) (w : Word) (wa : Nat) (m : List Host.Cell) (k : Nat) : List Host.Cell :=
  if en.getLsbD k then writeByte m (wa + k) (byteOf w k) else m

/-- The enabled byte lanes of `w` written at a word address: one transaction (20_memory.md R124, R141). -/
def writeLanes (m : List Host.Cell) (wa : Nat) (en : BitVec 4) (w : Word) : List Host.Cell :=
  [0, 1, 2, 3].foldl (writeLane en w wa) m

/-! ## Peripheral registers (20_memory.md R136, R137) -/

/-- The value of a peripheral register; one that nothing has written holds 0: DESIGN CHOICE (log entry 20). -/
def deviceGet (l : List (Nat × Word)) (reg : Nat) : Word := sparseGet 0#32 l reg

/-- The peripheral registers with `v` in register `reg`. -/
def devicePut (l : List (Nat × Word)) (reg : Nat) (v : Word) : List (Nat × Word) := sparsePut 0#32 l reg v

/-- The word whose enabled byte lanes are all ones. -/
def laneMask (en : BitVec 4) : Word :=
  wordOfBytes (if en.getLsbD 0 then 0xFF#8 else 0#8) (if en.getLsbD 1 then 0xFF#8 else 0#8)
    (if en.getLsbD 2 then 0xFF#8 else 0#8) (if en.getLsbD 3 then 0xFF#8 else 0#8)

/-- The new value of a peripheral register: base, set, clear and invert writes (20_memory.md R137), on the byte
lanes the access names (R141; log entry 20). -/
def deviceUpdate (kind : RegKind) (en : BitVec 4) (old w : Word) : Word :=
  let v := w &&& laneMask en
  match kind with
  | .base => (old &&& ~~~laneMask en) ||| v
  | .set => old ||| v
  | .clr => old &&& ~~~v
  | .inv => old ^^^ v

/-! ## The physical map (20_memory.md R131) -/

/-- Whether a region holds a physical address. -/
def Region.holds (r : Region) (wa : Nat) : Bool := decide (r.base ≤ wa) && decide (wa < r.base + r.size)

/-- What a region list holds at a word address: the first region that holds it decides, and where none does there
is nothing. `pick` chooses among fetch, load and store. -/
def findTarget (pick : Region → Target) : List Region → Nat → Target
  | [], _ => .absent
  | r :: rs, wa => if Region.holds r wa then pick r else findTarget pick rs wa

/-- The target of a fetch. -/
def fetchTarget (c : Config) (wa : Nat) : Target := findTarget (fun r => r.fetch) c.physMap wa

/-- The target of a load. -/
def loadTarget (c : Config) (wa : Nat) : Target := findTarget (fun r => r.load) c.physMap wa

/-- The target of a store. -/
def storeTarget (c : Config) (wa : Nat) : Target := findTarget (fun r => r.store) c.physMap wa

/-! ## Words that a fetch may not yet see (20_memory.md R149) -/

/-- How far the word at a word address has been made visible to fetch. -/
def codeStateAt (l : List (Nat × CodeState)) (wa : Nat) : CodeState := sparseGet .clean l wa

/-- Mark the word at a word address. -/
def markCode (l : List (Nat × CodeState)) (wa : Nat) (c : CodeState) : List (Nat × CodeState) :=
  sparsePut .clean l wa c

/-- What SYNCI does to the word at a word address: a stored word becomes a synchronized one (43_miscellaneous.md R381). -/
def syncCode (l : List (Nat × CodeState)) (wa : Nat) : List (Nat × CodeState) :=
  if codeStateAt l wa = .stored then markCode l wa .synced else l

/-- What an instruction hazard barrier does: every synchronized word can be fetched (20_memory.md R149). -/
def settleCode (l : List (Nat × CodeState)) : List (Nat × CodeState) := l.filter fun c => decide (c.2 ≠ .synced)

end Sys2Proof.Machine
end

