-- ==== Sys2Proof/Machine/Operands.lean ====
section
/-! DEFINITION. Sys2Proof/Machine/Operands.lean: the operand forms and the functions on words that the
instructions share (00_scope.md R13, 30_encoding.md R186 to R188, 40_load_store.md, 41_computational.md). -/

namespace Sys2Proof.Machine

open Sys2Proof

/-! ## Immediates (30_encoding.md R186) -/

/-- `sext_16`. -/
def sext16 (imm : BitVec 16) : Word := imm.signExtend 32

/-- `zext_16`. -/
def zext16 (imm : BitVec 16) : Word := imm.zeroExtend 32

/-- `sext_8`. -/
def sext8 (b : Byte) : Word := b.signExtend 32

/-- The target of a branch at `b`: `B + 4 + sext_18(offset || 0b00)` (30_encoding.md R187). -/
def branchTarget (b : Word) (offset : BitVec 16) : Word := b + 4#32 + (offset ++ 0#2).signExtend 32

/-- The target of a jump at `b`: `(B + 4)[31:28] || instr_index || 0b00` (30_encoding.md R188). -/
def jumpTarget (b : Word) (index : BitVec 26) : Word := (b + 4#32).extractLsb' 28 4 ++ index ++ 0#2

/-- The address a saved PC or a register jump names: `t[31:1] || 0` (42_jump_branch.md R345). -/
def jumpAddress (t : Word) : Word := t.extractLsb' 1 31 ++ 0#1

/-- The ISAMode a saved PC or a register jump names: `t[0]` (42_jump_branch.md R345). -/
def jumpIsa (t : Word) : Bool := t.getLsbD 0

/-! ## Lanes of the aligned word (40_load_store.md R220 to R232) -/

/-- Byte `b` of a word. -/
def byteLane (w : Word) (b : Nat) : Byte := w.extractLsb' (8 * b) 8

/-- The halfword that starts at byte `b` of a word. -/
def halfLane (w : Word) (b : Nat) : BitVec 16 := w.extractLsb' (8 * b) 16

/-- The result of LWL at place `b` (R226): the bytes 0 to `b` of `w` in the high end of `old`. -/
def mergeLeft (b : Nat) (w old : Word) : Word :=
  (w <<< (8 * (3 - b))) ||| (old &&& ((1#32 <<< (8 * (3 - b))) - 1#32))

/-- The result of LWR at place `b` (R227): the bytes `b` to 3 of `w` in the low end of `old`. -/
def mergeRight (b : Nat) (w old : Word) : Word :=
  (old &&& ~~~(0xFFFFFFFF#32 >>> (8 * b))) ||| (w >>> (8 * b))

/-- A store of some bytes of the aligned word: which byte lanes, and the word that holds their new values. -/
structure LaneStore where
  /-- The lanes that are written. -/
  enable : BitVec 4
  /-- The word whose enabled lanes are stored. -/
  data : Word
deriving DecidableEq, Repr

/-- SB at place `b` (R228). -/
def laneByte (b : Nat) (v : Word) : LaneStore := { enable := 0x1#4 <<< b, data := v <<< (8 * b) }

/-- SH at place `b` (R229). -/
def laneHalf (b : Nat) (v : Word) : LaneStore := { enable := 0x3#4 <<< b, data := v <<< (8 * b) }

/-- SW and SC (R230, R234). -/
def laneWord (v : Word) : LaneStore := { enable := 0xF#4, data := v }

/-- SWL at place `b` (R231): bytes 0 to `b` receive the most significant bytes of `v`. -/
def laneLeft (b : Nat) (v : Word) : LaneStore := { enable := 0xF#4 >>> (3 - b), data := v >>> (8 * (3 - b)) }

/-- SWR at place `b` (R232): bytes `b` to 3 receive the least significant bytes of `v`. -/
def laneRight (b : Nat) (v : Word) : LaneStore := { enable := 0xF#4 <<< b, data := v <<< (8 * b) }

/-! ## Shifts, counts and bit fields (41_computational.md R280 to R294) -/

/-- Rotate right by `s` (R286): `v[s-1:0] || v[31:s]`. -/
def rotateRightBy (v : Word) (s : Nat) : Word := (v >>> s) ||| (v <<< (32 - s))

/-- The shift amount in the low five bits of a register (R283). -/
def shiftAmount (v : Word) : Nat := (v.extractLsb' 0 5).toNat

/-- The number of zero bits of `v` from bit `n - 1` downward. -/
def zerosBelow (v : Word) : Nat → Nat
  | 0 => 0
  | n + 1 => if v.getLsbD n then 0 else zerosBelow v n + 1

/-- Leading zeros (R288). -/
def leadingZeros (v : Word) : Nat := zerosBelow v 32

/-- The word whose `n` low bits are ones. -/
def lowOnes (n : Nat) : Word := (1#32 <<< n) - 1#32

/-- EXT: bits `lsb + msbd` to `lsb` of `v` (R290). -/
def extractField (v : Word) (lsb msbd : Nat) : Word := (v >>> lsb) &&& lowOnes (msbd + 1)

/-- INS: bits `msb` to `lsb` of `old` replaced with the low bits of `v` (R291). -/
def insertField (old v : Word) (lsb msb : Nat) : Word :=
  let mask := lowOnes (msb - lsb + 1) <<< lsb
  (old &&& ~~~mask) ||| ((v <<< lsb) &&& mask)

/-- WSBH: the bytes of each halfword swapped (R294). -/
def swapBytesInHalves (v : Word) : Word := byteLane v 2 ++ byteLane v 3 ++ byteLane v 0 ++ byteLane v 1

/-! ## Multiplication and division (41_computational.md R295 to R303) -/

/-- The 64-bit signed product. -/
def productSigned (a b : Word) : BitVec 64 := a.signExtend 64 * b.signExtend 64

/-- The 64-bit unsigned product. -/
def productUnsigned (a b : Word) : BitVec 64 := a.zeroExtend 64 * b.zeroExtend 64

/-- The division corner whose HI and LO the spec leaves open, signed (R302, U12). -/
def divCorner (a b : Word) : Bool := b == 0#32 || (a == 0x80000000#32 && b == 0xFFFFFFFF#32)

end Sys2Proof.Machine
end

