-- ==== Sys2Proof/Machine/Flags.lean ====
section
/-! DEFINITION. Sys2Proof/Machine/Flags.lean: the core has no condition codes (10_state.md R29). What other
machines keep in flags is here: the overflow conditions that trap (41_computational.md R261), and the
comparisons whose 0 or 1 goes to a register or decides a branch, trap or move. -/

namespace Sys2Proof.Machine

open Sys2Proof

/-- Signed overflow of an addition: bits 32 and 31 of the 33-bit sum differ (41_computational.md R261). -/
def addOverflows (a b : Word) : Bool :=
  let t := a.signExtend 33 + b.signExtend 33
  t.getLsbD 32 != t.getLsbD 31

/-- Signed overflow of a subtraction: bits 32 and 31 of the 33-bit difference differ (41_computational.md R261). -/
def subOverflows (a b : Word) : Bool :=
  let t := a.signExtend 33 - b.signExtend 33
  t.getLsbD 32 != t.getLsbD 31

/-- `<s`: signed less than (00_scope.md R13). -/
def lessSigned (a b : Word) : Bool := a.slt b

/-- `<u`: unsigned less than (00_scope.md R13). -/
def lessUnsigned (a b : Word) : Bool := a.ult b

/-- Bit 31 is set: the value is negative (42_jump_branch.md R357). -/
def isNegative (a : Word) : Bool := a.msb

/-- `signed(v) <= 0` (42_jump_branch.md R355). -/
def notPositive (a : Word) : Bool := a.msb || a == 0#32

/-- The register value of a comparison: 1 or 0 (41_computational.md R260). -/
def flagWord (b : Bool) : Word := if b then 1#32 else 0#32

end Sys2Proof.Machine
end

