-- ==== Sys2Proof/Machine/Ops.lean ====
section
/-! DEFINITION. Sys2Proof/Machine/Ops.lean: the named operations over registers and memory that the meanings
share: register access, the sequential advance and the branch, the processor mode and the address translation,
what a pending write lets an instruction see, taking an exception, entering and leaving Debug mode, returning, NMI and Reset, and the data access. -/

namespace Sys2Proof.Machine

open Sys2Proof

/-! ## General registers (10_state.md R20 to R23) -/

/-- Where `SGPR[set][r]` stands in the register file. -/
def gprIndex (set : SetNum) (r : Reg) : Fin 128 := ⟨(set ++ r).toNat, (set ++ r).isLt⟩

/-- `SGPR[set][r]`; r0 of every set reads 0 (R21). -/
def State.regOf (s : State) (set : SetNum) (r : Reg) : Word :=
  if r = 0#5 then 0#32 else s.gprs[gprIndex set r]

/-- `SGPR[set][r] <- v`; a write to r0 is discarded (R21). -/
def State.setRegOf (s : State) (set : SetNum) (r : Reg) (v : Word) : State :=
  if r = 0#5 then s else { s with gprs := s.gprs.set (gprIndex set r) v }

/-- `GPR[r]`: register `r` of the current set (R23). -/
def State.reg (s : State) (r : Reg) : Word := s.regOf s.cp0.srs.css r

/-- `GPR[r] <- v` (R23). -/
def State.setReg (s : State) (r : Reg) (v : Word) : State := s.setRegOf s.cp0.srs.css r v

/-- `HI || LO <- v` (10_state.md R25). -/
def State.setHiLo (s : State) (v : BitVec 64) : State :=
  { s with hi := v.extractLsb' 32 32, lo := v.extractLsb' 0 32 }

/-- The accumulator `HI || LO` (10_state.md R25). -/
def State.acc (s : State) : BitVec 64 := s.hi ++ s.lo

/-! ## Free values (log entry 6) -/

/-- The free word number `k` of this step. -/
def State.freeWord (s : State) (k : Nat) : Word := Config.freeWord (s.freeIdx + k)

/-- `n` free values have been drawn. -/
def State.drawn (s : State) (n : Nat) : State := { s with freeIdx := s.freeIdx + n }

/-- HI and LO hold open values (41_computational.md R297, R302; U11, U12). -/
def State.freeHiLo (s : State) : State := { s with hi := s.freeWord 0, lo := s.freeWord 1 }.drawn 2

/-! ## Mode and translation -/

/-- User mode (60_exceptions.md R510), with Debug.DM = `dm`. -/
def inUserMode (dm : Bool) (st : Status) : Bool := !dm && st.um && !st.exl && !st.erl

/-- Coprocessor 0 may be used (44_coprocessor.md R430), with Debug.DM = `dm`. -/
def cop0UsableIn (dm : Bool) (st : Status) : Bool := !inUserMode dm st || st.cu0

/-- The processor is in User mode. -/
def State.userMode (s : State) : Bool := inUserMode s.cp0.dbg.dm s.cp0.status

/-- Coprocessor 0 is usable now. -/
def State.cop0Usable (s : State) : Bool := cop0UsableIn s.cp0.dbg.dm s.cp0.status

/-- The Fixed Mapping Translation (20_memory.md R129, R130), with Status.ERL = `erl`. -/
def translate (erl : Bool) (va : Word) : Word :=
  if va.toNat < 0x80000000 then
    if erl && decide (va.toNat < 0x20000000) then va else va + 0x40000000#32
  else if va.toNat < 0xA0000000 then va - 0x80000000#32
  else if va.toNat < 0xC0000000 then va - 0xA0000000#32
  else va

/-- An address of dseg (20_memory.md R121, R123). -/
def inDseg (va : Word) : Bool := decide (0xFF200000 ≤ va.toNat) && decide (va.toNat ≤ 0xFF3FFFFF)

/-! ## The program counter (10_state.md R26, 42_jump_branch.md R340) -/

/-- Every execution and instruction hazard is cleared, and synchronized words can be fetched
(70_reset_and_hazards.md R573, 20_memory.md R149). -/
def State.fullBarrier (s : State) : State :=
  { s with hazards := [], staleStatus := [], codeWords := settleCode s.codeWords }

/-- EHB: every execution hazard is cleared (43_miscellaneous.md R400). -/
def State.executionBarrier (s : State) : State := { s with hazards := [] }

/-- The instruction is complete and execution moves on: to the address after it, or, from a delay slot, to where
the branch goes (42_jump_branch.md R340); after JR.HB and JALR.HB hazards are cleared (R350). DESIGN CHOICE: they are
cleared when the delay slot is complete, so the instruction in it still sees them (log entry 41). -/
def State.advance (s : State) : State :=
  match s.delaySlot with
  | none => { s with pc := s.pc + 4#32 }
  | some d =>
    let t := { s with pc := d.target, isaMode := d.isa, delaySlot := none }
    if d.barrier then t.fullBarrier else t

/-- Execution goes to `target`, with no delay slot (42_jump_branch.md R342). -/
def State.goto (s : State) (target : Word) : State := { s with pc := target }

/-- The next instruction is the delay slot of this one; after it execution goes to `target` in mode `isa`. -/
def State.branchVia (s : State) (target : Word) (isa barrier : Bool) : State :=
  { s with pc := s.pc + 4#32, delaySlot := some { branch := s.pc, target := target, isa := isa, barrier := barrier } }

/-- A conditional branch (42_jump_branch.md R340): the delay slot is executed either way. -/
def State.branchIf (s : State) (c : Bool) (offset : BitVec 16) : State :=
  s.branchVia (if c then branchTarget s.pc offset else s.pc + 8#32) s.isaMode false

/-- A branch-likely (42_jump_branch.md R342): when it is not taken the delay slot is nullified. -/
def State.branchLikely (s : State) (c : Bool) (offset : BitVec 16) : State :=
  if c then s.branchVia (branchTarget s.pc offset) s.isaMode false else s.goto (s.pc + 8#32)

/-- What a control transfer does outside a delay slot; in one it is refused (42_jump_branch.md R343, U1). -/
def outsideSlot (s : State) (o : Out) : Out := if s.delaySlot.isSome then .refused .controlInDelaySlot else o

/-- A control transfer: refused in a delay slot (42_jump_branch.md R343, U1). -/
def controlTransfer (s : State) (t : State) : Out := outsideSlot s (.next t)

/-- A control transfer that links: refused too when it reads the register it links in (42_jump_branch.md R341). -/
def linkingTransfer (source link : Reg) (s : State) (t : State) : Out :=
  if source = link then .refused .readsLinkRegister else controlTransfer s t

/-- The address at which the current instruction is restarted: the branch, from a delay slot (60_exceptions.md R481). -/
def State.restartPc (s : State) : Word :=
  match s.delaySlot with
  | none => s.pc
  | some d => d.branch

/-- The current instruction is in a delay slot. -/
def State.inDelaySlot (s : State) : Bool := s.delaySlot.isSome

/-- What EPC, ErrorEPC or DEPC receives: `restartPC[31:1] || ISAMode` (60_exceptions.md R481). -/
def State.savedPc (s : State) : Word := s.restartPc.extractLsb' 1 31 ++ BitVec.ofBool s.isaMode

/-- Execution continues at `target` in mode `isa`; the pending branch and every hazard are discarded
(60_exceptions.md R480, 70_reset_and_hazards.md R573, R574). -/
def State.redirect (s : State) (target : Word) (isa : Bool) : State :=
  { s with pc := target, isaMode := isa, delaySlot := none, hazards := [], staleStatus := [] }

/-! ## What a pending write lets an instruction see (70_reset_and_hazards.md R571, R574; log entry 15) -/

/-- `v` with what an MTC0 to register `r` may have changed as it was in `old`, but for the fields that have a row of
their own in Table 2-1: Status.CU0 and IE, Cause.IP1 and IP0. Cause.TI is not writable. -/
def Cp0.withOld (v : Cp0) (r : Cp0Reg) (old : Cp0) : Cp0 :=
  match r with
  | .hwrEna => { v with hwrEna := old.hwrEna }
  | .count => { v with count := old.count }
  | .compare => { v with compare := old.compare }
  | .status => { v with status := { old.status with cu0 := v.status.cu0, ie := v.status.ie } }
  | .intCtl => { v with vs := old.vs }
  | .srsCtl => { v with srs := { v.srs with ess := old.srs.ess, pss := old.srs.pss } }
  | .srsMap => { v with srsMap := old.srsMap }
  | .cause => { v with cause := { v.cause with dc := old.cause.dc, iv := old.cause.iv } }
  | .epc => { v with epc := old.epc }
  | .ebase => { v with ebase := old.ebase }
  | .config => { v with ku := old.ku, k0 := old.k0 }
  | .debugReg => { v with dbg := old.dbg }
  | .traceControl => { v with traceControl := old.traceControl }
  | .userTraceData => { v with userTraceData := old.userTraceData }
  | .traceBPC => { v with traceBPC := old.traceBPC }
  | .depc => { v with depc := old.depc }
  | .errorEpc => { v with errorEpc := old.errorEpc }
  | .deSave => { v with deSave := old.deSave }
  | .badVAddr | .prid | .config1 | .config2 | .config3 | .traceControl2 | .debug2 | .reserved => v

/-- The one more Coprocessor 0 that a hazard lets an instruction see, beside `v`. -/
def Hazard.view (h : Hazard) (v : Cp0) : List Cp0 :=
  match h.row with
  | .cu0 => [{ v with status := { v.status with cu0 := h.old.status.cu0 } }]
  | .ie => [{ v with status := { v.status with ie := h.old.status.ie } }]
  | .other => [v.withOld h.reg h.old]
  | .returnPc | .ip | .pss | .compare => []

/-- Every Coprocessor 0 that an instruction may see while the hazards of `l` are pending: for each, the old or the new
value (R571: "an instruction closer than that may see the old or the new value"). -/
def viewsThrough (l : List Hazard) (c : Cp0) : List Cp0 := l.foldl (fun vs h => vs ++ vs.flatMap h.view) [c]

/-- Every Coprocessor 0 that the current instruction may see. -/
def State.views (s : State) : List Cp0 := viewsThrough s.hazards s.cp0

/-- Whether something that depends on Coprocessor 0 depends on a pending write. -/
def State.sees {α : Type} [DecidableEq α] (s : State) (f : Cp0 → α) : Bool :=
  s.views.any fun c => decide (f c ≠ f s.cp0)

/-! ## Taking an exception -/

/-- The exceptions with a code (60_exceptions.md R471), with what each records. -/
inductive Exc where
  /-- Int, code 0 (R472). -/
  | int
  /-- AdEL, code 4 (R473), at an address. -/
  | adel (va : Word)
  /-- AdES, code 5 (R473), at an address. -/
  | ades (va : Word)
  /-- IBE, code 6 (R474). -/
  | ibe
  /-- DBE, code 7 (R474). -/
  | dbe
  /-- Sys, code 8 (R475). -/
  | sys
  /-- Bp, code 9 (R475). -/
  | bp
  /-- RI, code 10 (R476). -/
  | ri
  /-- CpU, code 11 (R477), with the unit number. -/
  | cpu (ce : BitVec 2)
  /-- Ov, code 12 (R479). -/
  | ov
  /-- Tr, code 13 (R479). -/
  | tr
deriving DecidableEq, Repr

/-- Cause.EXCCODE of an exception (60_exceptions.md R471). -/
def Exc.code : Exc → BitVec 5
  | .int => 0#5
  | .adel _ => 4#5
  | .ades _ => 5#5
  | .ibe => 6#5
  | .dbe => 7#5
  | .sys => 8#5
  | .bp => 9#5
  | .ri => 10#5
  | .cpu _ => 11#5
  | .ov => 12#5
  | .tr => 13#5

/-- BadVAddr after an exception: address errors record their address (60_exceptions.md R473). -/
def Exc.badVAddr (old : Word) : Exc → Word
  | .adel va => va
  | .ades va => va
  | _ => old

/-- Cause.CE after an exception: the unit of CpU, and an open value for every other (60_exceptions.md R482, U9). -/
def Exc.causeCE (k : Nat) : Exc → BitVec 2
  | .cpu ce => ce
  | _ => Config.freeCE k

/-- How many free values the entry draws: one for Cause.CE, but for CpU. -/
def Exc.draws : Exc → Nat
  | .cpu _ => 0
  | _ => 1

/-- An interrupt that the vectored entry serves: Int with Cause.IV = 1 (60_exceptions.md R480). -/
def vectoredInt (e : Exc) (c : Cp0) : Bool := decide (e = .int) && c.cause.iv

/-- The exception vector base (60_exceptions.md R486). -/
def exceptionBase (c : Cp0) : Word := if c.status.bev then 0xBFC00200#32 else 0b10#2 ++ c.ebase ++ 0x000#12

/-- The vector offset (60_exceptions.md R480, R487, R488). -/
def exceptionOffset (e : Exc) (c : Cp0) (r : IntReq) : Word :=
  if !c.status.exl && vectoredInt e c then
    if c.status.bev then 0x200#32
    else 0x200#32 + r.vector.zeroExtend 32 * (c.vs.zeroExtend 32 * 32#32)
  else 0x180#32

/-- The new current set, where the entry changes SRSCtl (60_exceptions.md R480, R484). -/
def entrySet (e : Exc) (c : Cp0) (r : IntReq) : Option SetNum :=
  if !c.status.exl && !c.status.bev && !c.status.erl then
    some (if vectoredInt e c && c.vs != 0#5 then r.eicss else c.srs.ess)
  else none

/-- SRSCtl after the entry (60_exceptions.md R480, R484). -/
def exceptionSets (e : Exc) (c : Cp0) (r : IntReq) : SrsCtl :=
  match entrySet e c r with
  | some set => { c.srs with pss := c.srs.css, css := set }
  | none => c.srs

/-- Cause after the entry (60_exceptions.md R482). -/
def exceptionCause (e : Exc) (s : State) : Cause :=
  { s.cp0.cause with
    bd := if s.cp0.status.exl then s.cp0.cause.bd else s.inDelaySlot
    ce := e.causeCE s.freeIdx
    excCode := e.code }

/-- Debug after a bus error is taken: its pending bit is cleared (10_state.md R73). -/
def Exc.clearPending (d : Debug) : Exc → Debug
  | .ibe => { d with ibusep := false }
  | .dbe => { d with dbusep := false }
  | _ => d

/-- Coprocessor 0 after the entry (60_exceptions.md R480; Debug: 10_state.md R73). -/
def exceptionCp0 (e : Exc) (s : State) : Cp0 :=
  { s.cp0 with
    badVAddr := e.badVAddr s.cp0.badVAddr
    status := { s.cp0.status with exl := true }
    srs := exceptionSets e s.cp0 s.intReq
    cause := exceptionCause e s
    dbg := e.clearPending s.cp0.dbg
    epc := if s.cp0.status.exl then s.cp0.epc else s.savedPc }

/-- Exception entry outside Debug mode: `raise X` (60_exceptions.md R480). -/
def enterException (e : Exc) (s : State) : State :=
  { s with cp0 := exceptionCp0 e s }.redirect (exceptionBase s.cp0 + exceptionOffset e s.cp0 s.intReq) false
    |>.drawn e.draws

/-! ## Debug mode (60_exceptions.md R528 to R531; log entry 18) -/

/-- The debug exception vector: a word address, left open (60_exceptions.md R530). -/
def debugVector : Word := Config.debugVectorWord ++ 0#2

/-- The cause bits after a debug exception: only its own is set (10_state.md R75, R76). -/
def DebugCause.bits : DebugCause → DebugCauses
  | .dibimpr => { DebugCauses.none with dibimpr := true }
  | .dint => { DebugCauses.none with dint := true }
  | .dib => { DebugCauses.none with dib := true }
  | .ddbs => { DebugCauses.none with ddbs := true }
  | .ddbl => { DebugCauses.none with ddbl := true }
  | .dbp => { DebugCauses.none with dbp := true }
  | .dss => { DebugCauses.none with dss := true }

/-- A debug exception (60_exceptions.md R529): DEPC, DBD, DM, IEXI, the cause bit; DOZE reports a wait; HALT has no
settled polarity and DEXCCODE is undefined, so both are free (10_state.md R72, R76); Debug2 reports what the complex
breakpoint unit saw, which is outside the spec, so it is free too (R88; log entry 35). -/
def enterDebug (c : DebugCause) (s : State) : State :=
  { s with
    waiting := false
    cp0 := { s.cp0 with
      depc := s.savedPc
      dbg := { s.cp0.dbg with
        dbd := s.inDelaySlot
        dm := true
        doze := s.waiting
        halt := Config.freeBit s.freeIdx
        iexi := true
        dexcCode := Config.freeCode (s.freeIdx + 1)
        causes := c.bits }
      debug2 := (s.freeWord 2).extractLsb' 0 4 } }.redirect debugVector false
    |>.drawn 3

/-- An exception in Debug mode re-enters at the debug vector (60_exceptions.md R529, 10_state.md R76): DEXCCODE
has its code, the cause bits are cleared, HALT and DOZE are undefined (U15); BadVAddr is written as on every address
error (10_state.md R34) and a bus error clears its pending bit (R73). -/
def reenterDebug (e : Exc) (s : State) : State :=
  { s with
    cp0 := { s.cp0 with
      badVAddr := e.badVAddr s.cp0.badVAddr
      depc := s.savedPc
      dbg := { e.clearPending s.cp0.dbg with
        dbd := s.inDelaySlot
        doze := Config.freeBit s.freeIdx
        halt := Config.freeBit (s.freeIdx + 1)
        iexi := true
        dexcCode := e.code
        causes := DebugCauses.none } } }.redirect debugVector false
    |>.drawn 2

/-- The entry of an exception. The instruction completes nothing (60_exceptions.md R480). -/
def raise (e : Exc) (s : State) : State := if s.cp0.dbg.dm then reenterDebug e s else enterException e s

/-- What the entry outside Debug mode takes from Coprocessor 0: where it goes, the new current set, and EXL, which
decides whether EPC and BD are written (60_exceptions.md R480). -/
def entryPoint (e : Exc) (r : IntReq) (c : Cp0) : Word × Option SetNum × Bool :=
  (exceptionBase c + exceptionOffset e c r, entrySet e c r, c.status.exl)

/-- The entry would differ between the old and the new value of a pending write (70_reset_and_hazards.md R574). -/
def entryHazard (e : Exc) (s : State) : Bool := !s.cp0.dbg.dm && s.sees (entryPoint e s.intReq)

/-- TAKING AN EXCEPTION: the one operation every meaning, fetch and interrupt uses. The entry sees pending writes as
an instruction does (70_reset_and_hazards.md R574), and is made where it depends on none. -/
def takeException (e : Exc) (s : State) : Out :=
  if entryHazard e s then .refused .executionHazard else .next (raise e s)

/-- A debug exception that the core meets: refused, as the spec rules (60_exceptions.md R529), unless the parameter
`DebugEntry` says that the entry is made (log entry 18). -/
def takeDebug (c : DebugCause) (s : State) : Out :=
  match s.cfg.debugEntry with
  | .refuse => .refused .debugModeEntry
  | .enter => .next (enterDebug c s)

/-! ## Returning -/

/-- ERET (44_coprocessor.md R437). -/
def returnFromException (s : State) : State :=
  let c := s.cp0
  let saved := if c.status.erl then c.errorEpc else c.epc
  let c' : Cp0 :=
    if c.status.erl then { c with status := { c.status with erl := false } }
    else
      { c with
        status := { c.status with exl := false }
        srs := if c.status.bev then c.srs else { c.srs with css := c.srs.pss } }
  { s with cp0 := c', llbit := false }.fullBarrier.redirect (jumpAddress saved) (jumpIsa saved)

/-- DERET in Debug mode (44_coprocessor.md R438). -/
def returnFromDebug (s : State) : State :=
  { s with cp0 := { s.cp0 with dbg := { s.cp0.dbg with dm := false, iexi := false } } }.fullBarrier.redirect
    (jumpAddress s.cp0.depc) (jumpIsa s.cp0.depc)

/-! ## NMI and Reset -/

/-- The reset and NMI vector (20_memory.md R133). -/
def resetVector : Word := 0xBFC00000#32

/-- NMI entry (60_exceptions.md R507). -/
def enterNmi (s : State) : State :=
  { s with
    waiting := false
    cp0 := { s.cp0 with
      errorEpc := s.savedPc
      status := { s.cp0.status with erl := true, nmi := true, bev := true, sr := false } } }.redirect resetVector false

/-- Coprocessor 0 after a reset that strikes a running core: the fields with a reset value take it, the others keep
theirs (10_state.md R92, 70_reset_and_hazards.md R551, R557). -/
def resetCp0 (s : State) : Cp0 :=
  let c := s.cp0
  { c with
    hwrEna := Cp0.reset.hwrEna
    status := { c.status with bev := true, sr := true, nmi := false, erl := true, rp := false }
    vs := Cp0.reset.vs
    srs := Cp0.reset.srs
    srsMap := Cp0.reset.srsMap
    cause := { c.cause with dc := false }
    ebase := Cp0.reset.ebase
    ku := Cp0.reset.ku
    k0 := Cp0.reset.k0
    dbg := { Debug.reset with causes := c.dbg.causes }
    traceControl := Cp0.reset.traceControl
    userTraceData := Cp0.reset.userTraceData
    traceBPC := Cp0.reset.traceBPC
    errorEpc := s.savedPc }

/-- The Reset event on a running core (70_reset_and_hazards.md R556, R557). What the peripherals hold afterwards is in no
source (R554): they keep their registers, DESIGN CHOICE (log entry 32). -/
def enterReset (s : State) : State :=
  { s with waiting := false, cp0 := resetCp0 s }.redirect resetVector false

/-! ## The data access (20_memory.md R139) -/

/-- A load or a store. -/
inductive DataKind where
  | load
  | store
deriving DecidableEq, Repr

/-- The address error of an access (20_memory.md R127). -/
def DataKind.addressError (va : Word) : DataKind → Exc
  | .load => .adel va
  | .store => .ades va

/-- Steps 1 to 4 of an access (20_memory.md R139): an exception, a refusal, or the physical address. -/
inductive Checked where
  | trap (e : Exc)
  | refuse (r : Refusal)
  | ok (pa : Word)
deriving DecidableEq, Repr

/-- Alignment to `n` bytes, privilege, byte order, dseg, translation (20_memory.md R139, R123). -/
def checkAccess (kind : DataKind) (n : Nat) (va : Word) (s : State) : Checked :=
  if va.toNat % n ≠ 0 then .trap (kind.addressError va)
  else if s.userMode && va.msb then .trap (kind.addressError va)
  else if s.userMode && s.cp0.status.re then .refuse .reverseEndian
  else if s.cp0.dbg.dm && inDseg va && !s.cp0.dbg.lsnm then .refuse .dseg
  else .ok (translate s.cp0.status.erl va)

/-- A bus error on a load or store (60_exceptions.md R478). -/
def dataBusError (va : Word) (s : State) : Out :=
  match s.cfg.busErrorMode with
  | .fault => .fault (.dataBusError va)
  | .precise => takeException .dbe s

/-- A load of `n` aligned bytes: `k` receives the aligned word that holds them, and the state after the access
(20_memory.md R139). A set, clear or invert address of a peripheral register gives an open value (R138). -/
def withLoad (n : Nat) (va : Word) (s : State) (k : Word → State → Out) : Out :=
  match checkAccess .load n va s with
  | .trap e => takeException e s
  | .refuse r => .refused r
  | .ok pa =>
    match loadTarget s.cfg (wordAddr pa) with
    | .ram => k (readWord s.mem (wordAddr pa)) s
    | .flash => k (readWord s.mem (wordAddr pa)) s
    | .device reg .base => k (deviceGet s.devRegs reg) s
    | .device _ .clr => k (s.freeWord 0) (s.drawn 1)
    | .device _ .set => k (s.freeWord 0) (s.drawn 1)
    | .device _ .inv => k (s.freeWord 0) (s.drawn 1)
    | .absent => dataBusError va s

/-- The lanes of a store written to RAM; the word is then one that a fetch may not yet see (20_memory.md R149). -/
def State.storeRam (s : State) (wa : Nat) (w : LaneStore) : State :=
  { s with mem := writeLanes s.mem wa w.enable w.data, codeWords := markCode s.codeWords wa .stored }

/-- The lanes of a store written to a peripheral register (20_memory.md R137). -/
def State.storeDevice (s : State) (reg : Nat) (kind : RegKind) (w : LaneStore) : State :=
  { s with devRegs := devicePut s.devRegs reg (deviceUpdate kind w.enable (deviceGet s.devRegs reg) w.data) }

/-- A store of `n` aligned bytes (20_memory.md R139). The instruction is complete first and the store made in the
state after it, so that a barrier that ends with this instruction does not cover its own store. -/
def withStore (n : Nat) (va : Word) (w : LaneStore) (s : State) (k : State → State) : Out :=
  match checkAccess .store n va s with
  | .trap e => takeException e s
  | .refuse r => .refused r
  | .ok pa =>
    match storeTarget s.cfg (wordAddr pa) with
    | .ram => .next ((k s).storeRam (wordAddr pa) w)
    | .flash => .refused .flashStore
    | .device reg kind => .next ((k s).storeDevice reg kind w)
    | .absent => dataBusError va s

/-! ## Completing an instruction -/

/-- The instruction has no effect but that execution moves on. -/
def complete (s : State) : Out := .next s.advance

/-- The instruction writes `GPR[r]` and execution moves on. -/
def completeReg (s : State) (r : Reg) (v : Word) : Out := .next (s.setReg r v).advance

/-- A trap instruction (43_miscellaneous.md R384): Tr when the condition holds. -/
def trapIf (c : Bool) (s : State) : Out := if c then takeException .tr s else complete s

/-! ## Coprocessor usability (44_coprocessor.md R430) -/

/-- A Coprocessor 0 instruction: CpU with CE = 0 where Coprocessor 0 is not usable, before anything else (R430). -/
def withCop0 (s : State) (o : Out) : Out := if s.cop0Usable then o else takeException (.cpu 0#2) s

/-- The effective address of a load or store (40_load_store.md R220). -/
def State.effectiveAddress (s : State) (base : Reg) (offset : BitVec 16) : Word := s.reg base + sext16 offset

end Sys2Proof.Machine
end

