-- ==== Sys2Proof/Machine/Arithmetic.lean ====
section
/-! DEFINITION. Sys2Proof/Machine/Arithmetic.lean: the meanings of add, subtract, compare and load upper
(41_computational.md R262 to R272). -/

namespace Sys2Proof.Machine

open Sys2Proof

/-- ADD (R262): Ov on signed overflow, else the sum. -/
def execAdd (rs rt rd : Reg) (s : State) : Out :=
  if addOverflows (s.reg rs) (s.reg rt) then takeException .ov s else completeReg s rd (s.reg rs + s.reg rt)

/-- ADDU (R263): the sum modulo 2^32. -/
def execAddu (rs rt rd : Reg) (s : State) : Out := completeReg s rd (s.reg rs + s.reg rt)

/-- SUB (R266): Ov on signed overflow, else the difference. -/
def execSub (rs rt rd : Reg) (s : State) : Out :=
  if subOverflows (s.reg rs) (s.reg rt) then takeException .ov s else completeReg s rd (s.reg rs - s.reg rt)

/-- SUBU (R267): the difference modulo 2^32. -/
def execSubu (rs rt rd : Reg) (s : State) : Out := completeReg s rd (s.reg rs - s.reg rt)

/-- SLT (R268): 1 when `rs` is less than `rt`, signed. -/
def execSlt (rs rt rd : Reg) (s : State) : Out := completeReg s rd (flagWord (lessSigned (s.reg rs) (s.reg rt)))

/-- SLTU (R269): 1 when `rs` is less than `rt`, unsigned. -/
def execSltu (rs rt rd : Reg) (s : State) : Out := completeReg s rd (flagWord (lessUnsigned (s.reg rs) (s.reg rt)))

/-- ADDI (R264): Ov on signed overflow, else the sum with the sign-extended immediate. -/
def execAddi (rs rt : Reg) (imm : BitVec 16) (s : State) : Out :=
  if addOverflows (s.reg rs) (sext16 imm) then takeException .ov s else completeReg s rt (s.reg rs + sext16 imm)

/-- ADDIU (R265): the sum with the sign-extended immediate, modulo 2^32. -/
def execAddiu (rs rt : Reg) (imm : BitVec 16) (s : State) : Out := completeReg s rt (s.reg rs + sext16 imm)

/-- SLTI (R270): 1 when `rs` is less than the sign-extended immediate, signed. -/
def execSlti (rs rt : Reg) (imm : BitVec 16) (s : State) : Out :=
  completeReg s rt (flagWord (lessSigned (s.reg rs) (sext16 imm)))

/-- SLTIU (R271): 1 when `rs` is less than the sign-extended immediate, unsigned. -/
def execSltiu (rs rt : Reg) (imm : BitVec 16) (s : State) : Out :=
  completeReg s rt (flagWord (lessUnsigned (s.reg rs) (sext16 imm)))

/-- LUI (R272): `immediate || 0x0000`. -/
def execLui (rt : Reg) (imm : BitVec 16) (s : State) : Out := completeReg s rt (imm ++ 0x0000#16)

end Sys2Proof.Machine
end

