-- ==== Sys2Proof/Machine/Branch.lean ====
section
/-! DEFINITION. Sys2Proof/Machine/Branch.lean: the meanings of the jumps and branches (42_jump_branch.md). -/

namespace Sys2Proof.Machine

open Sys2Proof

/-- J (R346). -/
def execJ (index : BitVec 26) (s : State) : Out :=
  controlTransfer s (s.branchVia (jumpTarget s.pc index) s.isaMode false)

/-- JAL (R347): r31 receives `B + 8`. -/
def execJal (index : BitVec 26) (s : State) : Out :=
  controlTransfer s ((s.setReg 31#5 (s.pc + 8#32)).branchVia (jumpTarget s.pc index) s.isaMode false)

/-- JR (R348): bit 0 of the register is the new ISAMode. -/
def execJr (rs : Reg) (s : State) : Out :=
  controlTransfer s (s.branchVia (jumpAddress (s.reg rs)) (jumpIsa (s.reg rs)) false)

/-- JALR (R349): `rd` receives `B + 8`; refused where `rs` is `rd`. -/
def execJalr (rs rd : Reg) (s : State) : Out :=
  linkingTransfer rs rd s
    ((s.setReg rd (s.pc + 8#32)).branchVia (jumpAddress (s.reg rs)) (jumpIsa (s.reg rs)) false)

/-- JR.HB (R350): JR, and hazards are cleared before the target is fetched. -/
def execJrHb (rs : Reg) (s : State) : Out :=
  controlTransfer s (s.branchVia (jumpAddress (s.reg rs)) (jumpIsa (s.reg rs)) true)

/-- JALR.HB (R351): JALR, and hazards are cleared before the target is fetched. -/
def execJalrHb (rs rd : Reg) (s : State) : Out :=
  linkingTransfer rs rd s
    ((s.setReg rd (s.pc + 8#32)).branchVia (jumpAddress (s.reg rs)) (jumpIsa (s.reg rs)) true)

/-- JALX (R352): JAL into MIPS16e code; the fetch there is refused (45_mips16e.md R465). -/
def execJalx (index : BitVec 26) (s : State) : Out :=
  controlTransfer s ((s.setReg 31#5 (s.pc + 8#32)).branchVia (jumpTarget s.pc index) true false)

/-- BEQ (R353): branch on equal. -/
def execBeq (rs rt : Reg) (offset : BitVec 16) (s : State) : Out :=
  controlTransfer s (s.branchIf (s.reg rs == s.reg rt) offset)

/-- BNE (R354): branch on not equal. -/
def execBne (rs rt : Reg) (offset : BitVec 16) (s : State) : Out :=
  controlTransfer s (s.branchIf (s.reg rs != s.reg rt) offset)

/-- BEQL (R361): branch on equal likely. -/
def execBeql (rs rt : Reg) (offset : BitVec 16) (s : State) : Out :=
  controlTransfer s (s.branchLikely (s.reg rs == s.reg rt) offset)

/-- BNEL (R362): branch on not equal likely. -/
def execBnel (rs rt : Reg) (offset : BitVec 16) (s : State) : Out :=
  controlTransfer s (s.branchLikely (s.reg rs != s.reg rt) offset)

/-- BLEZ (R355): branch on less than or equal to zero. -/
def execBlez (rs : Reg) (offset : BitVec 16) (s : State) : Out :=
  controlTransfer s (s.branchIf (notPositive (s.reg rs)) offset)

/-- BGTZ (R356): branch on greater than zero. -/
def execBgtz (rs : Reg) (offset : BitVec 16) (s : State) : Out :=
  controlTransfer s (s.branchIf (!notPositive (s.reg rs)) offset)

/-- BLTZ (R357): branch on less than zero. -/
def execBltz (rs : Reg) (offset : BitVec 16) (s : State) : Out :=
  controlTransfer s (s.branchIf (isNegative (s.reg rs)) offset)

/-- BGEZ (R358): branch on greater than or equal to zero. -/
def execBgez (rs : Reg) (offset : BitVec 16) (s : State) : Out :=
  controlTransfer s (s.branchIf (!isNegative (s.reg rs)) offset)

/-- BLTZAL (R359): branch on less than zero and link; r31 receives `B + 8` whether or not it branches. -/
def execBltzal (rs : Reg) (offset : BitVec 16) (s : State) : Out :=
  linkingTransfer rs 31#5 s ((s.setReg 31#5 (s.pc + 8#32)).branchIf (isNegative (s.reg rs)) offset)

/-- BGEZAL (R360): branch on greater than or equal to zero and link; r31 receives `B + 8` whether or not it branches. -/
def execBgezal (rs : Reg) (offset : BitVec 16) (s : State) : Out :=
  linkingTransfer rs 31#5 s ((s.setReg 31#5 (s.pc + 8#32)).branchIf (!isNegative (s.reg rs)) offset)

/-- BLEZL (R363): branch on less than or equal to zero likely. -/
def execBlezl (rs : Reg) (offset : BitVec 16) (s : State) : Out :=
  controlTransfer s (s.branchLikely (notPositive (s.reg rs)) offset)

/-- BGTZL (R364): branch on greater than zero likely. -/
def execBgtzl (rs : Reg) (offset : BitVec 16) (s : State) : Out :=
  controlTransfer s (s.branchLikely (!notPositive (s.reg rs)) offset)

/-- BLTZL (R365): branch on less than zero likely. -/
def execBltzl (rs : Reg) (offset : BitVec 16) (s : State) : Out :=
  controlTransfer s (s.branchLikely (isNegative (s.reg rs)) offset)

/-- BGEZL (R366): branch on greater than or equal to zero likely. -/
def execBgezl (rs : Reg) (offset : BitVec 16) (s : State) : Out :=
  controlTransfer s (s.branchLikely (!isNegative (s.reg rs)) offset)

/-- BLTZALL (R367): branch on less than zero and link likely; r31 receives `B + 8` whether or not it branches. -/
def execBltzall (rs : Reg) (offset : BitVec 16) (s : State) : Out :=
  linkingTransfer rs 31#5 s ((s.setReg 31#5 (s.pc + 8#32)).branchLikely (isNegative (s.reg rs)) offset)

/-- BGEZALL (R368): branch on greater than or equal to zero and link likely; r31 receives `B + 8` whether or not it branches. -/
def execBgezall (rs : Reg) (offset : BitVec 16) (s : State) : Out :=
  linkingTransfer rs 31#5 s ((s.setReg 31#5 (s.pc + 8#32)).branchLikely (!isNegative (s.reg rs)) offset)

end Sys2Proof.Machine
end

