-- ==== Sys2Proof/Machine/Coprocessor.lean ====
section
/-! DEFINITION. Sys2Proof/Machine/Coprocessor.lean: the instructions of coprocessors 1, 2 and 3, which this core
does not have: CpU in every mode, before any address is formed (44_coprocessor.md R441 to R445). -/

namespace Sys2Proof.Machine

open Sys2Proof

/-- The unit number COP1X reports, 1 or 3: left open (R443). -/
def cop1xUnit : BitVec 2 := if Config.cop1xIsThree then 3#2 else 1#2

/-- COP1 (R441). -/
def execCop1 (_bits : BitVec 26) (s : State) : Out := takeException (.cpu 1#2) s

/-- COP2 (R442). -/
def execCop2 (_bits : BitVec 26) (s : State) : Out := takeException (.cpu 2#2) s

/-- COP1X (R443). -/
def execCop1x (_bits : BitVec 26) (s : State) : Out := takeException (.cpu cop1xUnit) s

/-- LWC1 (R444). -/
def execLwc1 (_base _rt : BitVec 5) (_offset : BitVec 16) (s : State) : Out := takeException (.cpu 1#2) s

/-- LDC1 (R444). -/
def execLdc1 (_base _rt : BitVec 5) (_offset : BitVec 16) (s : State) : Out := takeException (.cpu 1#2) s

/-- SWC1 (R444). -/
def execSwc1 (_base _rt : BitVec 5) (_offset : BitVec 16) (s : State) : Out := takeException (.cpu 1#2) s

/-- SDC1 (R444). -/
def execSdc1 (_base _rt : BitVec 5) (_offset : BitVec 16) (s : State) : Out := takeException (.cpu 1#2) s

/-- LWC2 (R445). -/
def execLwc2 (_base _rt : BitVec 5) (_offset : BitVec 16) (s : State) : Out := takeException (.cpu 2#2) s

/-- LDC2 (R445). -/
def execLdc2 (_base _rt : BitVec 5) (_offset : BitVec 16) (s : State) : Out := takeException (.cpu 2#2) s

/-- SWC2 (R445). -/
def execSwc2 (_base _rt : BitVec 5) (_offset : BitVec 16) (s : State) : Out := takeException (.cpu 2#2) s

/-- SDC2 (R445). -/
def execSdc2 (_base _rt : BitVec 5) (_offset : BitVec 16) (s : State) : Out := takeException (.cpu 2#2) s

end Sys2Proof.Machine
end

