-- ==== Sys2Proof/Machine/LoadStore.lean ====
section
/-! DEFINITION. Sys2Proof/Machine/LoadStore.lean: the meanings of the loads and stores (40_load_store.md). -/

namespace Sys2Proof.Machine

open Sys2Proof

/-- LB (R221): the byte at the address, sign-extended. -/
def execLb (base rt : Reg) (offset : BitVec 16) (s : State) : Out :=
  let va := s.effectiveAddress base offset
  withLoad 1 va s fun w t => completeReg t rt (sext8 (byteLane w (laneOf va)))

/-- LBU (R222): the byte at the address, zero-extended. -/
def execLbu (base rt : Reg) (offset : BitVec 16) (s : State) : Out :=
  let va := s.effectiveAddress base offset
  withLoad 1 va s fun w t => completeReg t rt ((byteLane w (laneOf va)).zeroExtend 32)

/-- LH (R223): the aligned halfword, sign-extended. -/
def execLh (base rt : Reg) (offset : BitVec 16) (s : State) : Out :=
  let va := s.effectiveAddress base offset
  withLoad 2 va s fun w t => completeReg t rt (sext16 (halfLane w (laneOf va)))

/-- LHU (R224): the aligned halfword, zero-extended. -/
def execLhu (base rt : Reg) (offset : BitVec 16) (s : State) : Out :=
  let va := s.effectiveAddress base offset
  withLoad 2 va s fun w t => completeReg t rt (zext16 (halfLane w (laneOf va)))

/-- LW (R225): the aligned word. -/
def execLw (base rt : Reg) (offset : BitVec 16) (s : State) : Out :=
  withLoad 4 (s.effectiveAddress base offset) s fun w t => completeReg t rt w

/-- LWL (R226): the bytes 0 to `vaddr[1:0]` of the aligned word merged into the high end of `rt`. -/
def execLwl (base rt : Reg) (offset : BitVec 16) (s : State) : Out :=
  let va := s.effectiveAddress base offset
  withLoad 1 va s fun w t => completeReg t rt (mergeLeft (laneOf va) w (t.reg rt))

/-- LWR (R227): the bytes `vaddr[1:0]` to 3 of the aligned word merged into the low end of `rt`. -/
def execLwr (base rt : Reg) (offset : BitVec 16) (s : State) : Out :=
  let va := s.effectiveAddress base offset
  withLoad 1 va s fun w t => completeReg t rt (mergeRight (laneOf va) w (t.reg rt))

/-- SB (R228): the low byte of `rt`. -/
def execSb (base rt : Reg) (offset : BitVec 16) (s : State) : Out :=
  let va := s.effectiveAddress base offset
  withStore 1 va (laneByte (laneOf va) (s.reg rt)) s State.advance

/-- SH (R229): the low halfword of `rt`. -/
def execSh (base rt : Reg) (offset : BitVec 16) (s : State) : Out :=
  let va := s.effectiveAddress base offset
  withStore 2 va (laneHalf (laneOf va) (s.reg rt)) s State.advance

/-- SW (R230): the word `rt`. -/
def execSw (base rt : Reg) (offset : BitVec 16) (s : State) : Out :=
  withStore 4 (s.effectiveAddress base offset) (laneWord (s.reg rt)) s State.advance

/-- SWL (R231): the most significant bytes of `rt` to bytes 0 to `vaddr[1:0]` of the aligned word. -/
def execSwl (base rt : Reg) (offset : BitVec 16) (s : State) : Out :=
  let va := s.effectiveAddress base offset
  withStore 1 va (laneLeft (laneOf va) (s.reg rt)) s State.advance

/-- SWR (R232): the least significant bytes of `rt` to bytes `vaddr[1:0]` to 3 of the aligned word. -/
def execSwr (base rt : Reg) (offset : BitVec 16) (s : State) : Out :=
  let va := s.effectiveAddress base offset
  withStore 1 va (laneRight (laneOf va) (s.reg rt)) s State.advance

/-- LL (R233): the aligned word, and LLbit is set. -/
def execLl (base rt : Reg) (offset : BitVec 16) (s : State) : Out :=
  withLoad 4 (s.effectiveAddress base offset) s fun w t => completeReg { t with llbit := true } rt w

/-- The state after an SC with result `r`: `rt` holds it, and LLbit holds an open value (R234; log entry 9). -/
def afterStoreConditional (rt : Reg) (r : Word) (s : State) : State :=
  { (s.setReg rt r) with llbit := Config.freeBit s.freeIdx }.drawn 1 |>.advance

/-- SC (R234): the checks are made in any case; with LLbit = 1 the word is stored and `rt` becomes 1, with
LLbit = 0 nothing is stored and `rt` becomes 0. -/
def execSc (base rt : Reg) (offset : BitVec 16) (s : State) : Out :=
  let va := s.effectiveAddress base offset
  if s.llbit then withStore 4 va (laneWord (s.reg rt)) s (afterStoreConditional rt 1#32)
  else
    match checkAccess .store 4 va s with
    | .trap e => takeException e s
    | .refuse r => .refused r
    | .ok _ => .next (afterStoreConditional rt 0#32 s)

end Sys2Proof.Machine
end

