-- ==== Sys2Proof/Machine/Logic.lean ====
section
/-! DEFINITION. Sys2Proof/Machine/Logic.lean: the meanings of the logical instructions, shifts, rotates, counts,
bit fields and extensions (41_computational.md R273 to R294). -/

namespace Sys2Proof.Machine

open Sys2Proof

/-- AND (R273). -/
def execAnd (rs rt rd : Reg) (s : State) : Out := completeReg s rd (s.reg rs &&& s.reg rt)

/-- OR (R274). -/
def execOr (rs rt rd : Reg) (s : State) : Out := completeReg s rd (s.reg rs ||| s.reg rt)

/-- XOR (R275). -/
def execXor (rs rt rd : Reg) (s : State) : Out := completeReg s rd (s.reg rs ^^^ s.reg rt)

/-- NOR (R276). -/
def execNor (rs rt rd : Reg) (s : State) : Out := completeReg s rd (~~~(s.reg rs ||| s.reg rt))

/-- ANDI (R277): with the zero-extended immediate. -/
def execAndi (rs rt : Reg) (imm : BitVec 16) (s : State) : Out := completeReg s rt (s.reg rs &&& zext16 imm)

/-- ORI (R278): with the zero-extended immediate. -/
def execOri (rs rt : Reg) (imm : BitVec 16) (s : State) : Out := completeReg s rt (s.reg rs ||| zext16 imm)

/-- XORI (R279): with the zero-extended immediate. -/
def execXori (rs rt : Reg) (imm : BitVec 16) (s : State) : Out := completeReg s rt (s.reg rs ^^^ zext16 imm)

/-- SLL (R280). -/
def execSll (rt rd : Reg) (sa : BitVec 5) (s : State) : Out := completeReg s rd (s.reg rt <<< sa.toNat)

/-- SRL (R281). -/
def execSrl (rt rd : Reg) (sa : BitVec 5) (s : State) : Out := completeReg s rd (s.reg rt >>> sa.toNat)

/-- SRA (R282). -/
def execSra (rt rd : Reg) (sa : BitVec 5) (s : State) : Out := completeReg s rd ((s.reg rt).sshiftRight sa.toNat)

/-- SLLV (R283): by the low five bits of `rs`. -/
def execSllv (rs rt rd : Reg) (s : State) : Out := completeReg s rd (s.reg rt <<< shiftAmount (s.reg rs))

/-- SRLV (R284): by the low five bits of `rs`. -/
def execSrlv (rs rt rd : Reg) (s : State) : Out := completeReg s rd (s.reg rt >>> shiftAmount (s.reg rs))

/-- SRAV (R285): by the low five bits of `rs`. -/
def execSrav (rs rt rd : Reg) (s : State) : Out :=
  completeReg s rd ((s.reg rt).sshiftRight (shiftAmount (s.reg rs)))

/-- ROTR (R286). -/
def execRotr (rt rd : Reg) (sa : BitVec 5) (s : State) : Out := completeReg s rd (rotateRightBy (s.reg rt) sa.toNat)

/-- ROTRV (R287): by the low five bits of `rs`. -/
def execRotrv (rs rt rd : Reg) (s : State) : Out :=
  completeReg s rd (rotateRightBy (s.reg rt) (shiftAmount (s.reg rs)))

/-- CLZ (R288): leading zeros; refused where the `rt` field is not `rd`. -/
def execClz (rs rt rd : Reg) (s : State) : Out :=
  if rt = rd then completeReg s rd (BitVec.ofNat 32 (leadingZeros (s.reg rs))) else .refused .countFields

/-- CLO (R289): leading ones; refused where the `rt` field is not `rd`. -/
def execClo (rs rt rd : Reg) (s : State) : Out :=
  if rt = rd then completeReg s rd (BitVec.ofNat 32 (leadingZeros (~~~s.reg rs))) else .refused .countFields

/-- EXT (R290): refused where the field would run past bit 31 (U10). -/
def execExt (rs rt : Reg) (msbd lsb : BitVec 5) (s : State) : Out :=
  if lsb.toNat + msbd.toNat ≤ 31 then completeReg s rt (extractField (s.reg rs) lsb.toNat msbd.toNat)
  else .refused .bitRange

/-- INS (R291): refused where the field is empty (U10). -/
def execIns (rs rt : Reg) (msb lsb : BitVec 5) (s : State) : Out :=
  if lsb.toNat ≤ msb.toNat then completeReg s rt (insertField (s.reg rt) (s.reg rs) lsb.toNat msb.toNat)
  else .refused .bitRange

/-- SEB (R292). -/
def execSeb (rt rd : Reg) (s : State) : Out := completeReg s rd (sext8 (byteLane (s.reg rt) 0))

/-- SEH (R293). -/
def execSeh (rt rd : Reg) (s : State) : Out := completeReg s rd (sext16 (halfLane (s.reg rt) 0))

/-- WSBH (R294). -/
def execWsbh (rt rd : Reg) (s : State) : Out := completeReg s rd (swapBytesInHalves (s.reg rt))

end Sys2Proof.Machine
end

