-- ==== Sys2Proof/Machine/Miscellaneous.lean ====
section
/-! DEFINITION. Sys2Proof/Machine/Miscellaneous.lean: the meanings of the miscellaneous instructions
(43_miscellaneous.md). -/

namespace Sys2Proof.Machine

open Sys2Proof

/-! ## Serialization -/

/-- SYNC (R380): memory accesses are already made in program order, so nothing changes. -/
def execSync (_stype : BitVec 5) (s : State) : Out := complete s

/-- SYNCI (R381): the aligned word that holds the address has been synchronized; no exception, whatever the address. -/
def execSynci (base : Reg) (offset : BitVec 16) (s : State) : Out :=
  let wa := wordAddr (translate s.cp0.status.erl (s.effectiveAddress base offset))
  let t := s.advance
  .next { t with codeWords := syncCode t.codeWords wa }

/-! ## Exception instructions -/

/-- SYSCALL (R382). -/
def execSyscall (_code : BitVec 20) (s : State) : Out := takeException .sys s

/-- BREAK (R383). -/
def execBreak (_code : BitVec 20) (s : State) : Out := takeException .bp s

/-- TGE (R384): Tr when `rs` is not less than `rt`, signed. -/
def execTge (rs rt : Reg) (_code : BitVec 10) (s : State) : Out :=
  trapIf (!lessSigned (s.reg rs) (s.reg rt)) s

/-- TGEU (R385): Tr when `rs` is not less than `rt`, unsigned. -/
def execTgeu (rs rt : Reg) (_code : BitVec 10) (s : State) : Out :=
  trapIf (!lessUnsigned (s.reg rs) (s.reg rt)) s

/-- TLT (R386): Tr when `rs` is less than `rt`, signed. -/
def execTlt (rs rt : Reg) (_code : BitVec 10) (s : State) : Out :=
  trapIf (lessSigned (s.reg rs) (s.reg rt)) s

/-- TLTU (R387): Tr when `rs` is less than `rt`, unsigned. -/
def execTltu (rs rt : Reg) (_code : BitVec 10) (s : State) : Out :=
  trapIf (lessUnsigned (s.reg rs) (s.reg rt)) s

/-- TEQ (R388): Tr when `rs` equals `rt`. -/
def execTeq (rs rt : Reg) (_code : BitVec 10) (s : State) : Out :=
  trapIf ((s.reg rs) == (s.reg rt)) s

/-- TNE (R389): Tr when `rs` differs from `rt`. -/
def execTne (rs rt : Reg) (_code : BitVec 10) (s : State) : Out :=
  trapIf ((s.reg rs) != (s.reg rt)) s

/-- TGEI (R390): Tr when `rs` is not less than the immediate, signed. -/
def execTgei (rs : Reg) (imm : BitVec 16) (s : State) : Out :=
  trapIf (!lessSigned (s.reg rs) (sext16 imm)) s

/-- TGEIU (R391): Tr when `rs` is not less than the sign-extended immediate, unsigned. -/
def execTgeiu (rs : Reg) (imm : BitVec 16) (s : State) : Out :=
  trapIf (!lessUnsigned (s.reg rs) (sext16 imm)) s

/-- TLTI (R392): Tr when `rs` is less than the immediate, signed. -/
def execTlti (rs : Reg) (imm : BitVec 16) (s : State) : Out :=
  trapIf (lessSigned (s.reg rs) (sext16 imm)) s

/-- TLTIU (R393): Tr when `rs` is less than the sign-extended immediate, unsigned. -/
def execTltiu (rs : Reg) (imm : BitVec 16) (s : State) : Out :=
  trapIf (lessUnsigned (s.reg rs) (sext16 imm)) s

/-- TEQI (R394): Tr when `rs` equals the immediate. -/
def execTeqi (rs : Reg) (imm : BitVec 16) (s : State) : Out :=
  trapIf ((s.reg rs) == (sext16 imm)) s

/-- TNEI (R395): Tr when `rs` differs from the immediate. -/
def execTnei (rs : Reg) (imm : BitVec 16) (s : State) : Out :=
  trapIf ((s.reg rs) != (sext16 imm)) s

/-- SDBBP (R404): the debug software breakpoint exception, refused unless `DebugEntry` says that Debug mode is entered
(60_exceptions.md R529; log entry 18). -/
def execSdbbp (_code : BitVec 20) (s : State) : Out := takeDebug .dbp s

/-! ## Conditional moves -/

/-- MOVN (R396): `rd` becomes `rs` where `rt` is not zero. -/
def execMovn (rs rt rd : Reg) (s : State) : Out :=
  if s.reg rt = 0#32 then complete s else completeReg s rd (s.reg rs)

/-- MOVZ (R397): `rd` becomes `rs` where `rt` is zero. -/
def execMovz (rs rt rd : Reg) (s : State) : Out :=
  if s.reg rt = 0#32 then completeReg s rd (s.reg rs) else complete s

/-- MOVF and MOVT (R405): CpU with CE = 1. -/
def execMovci (_rs : Reg) (_cc : BitVec 3) (_b17 _tf : BitVec 1) (_rd : Reg) (_low : BitVec 5) (s : State) : Out :=
  takeException (.cpu 1#2) s

/-! ## No operation and the execution hazard barrier -/

/-- NOP (R398). -/
def execNop (s : State) : Out := complete s

/-- SSNOP (R399): the same as NOP on this core. -/
def execSsnop (s : State) : Out := complete s

/-- EHB (R400): every execution hazard is cleared; the instruction hazard stays. -/
def execEhb (s : State) : Out := complete s.executionBarrier

/-! ## Hardware registers, prefetch, cache -/

/-- The value of a hardware register 0 to 3 (R401): CPUNum, SYNCI_Step, CC, CCRes. -/
def hardwareRegister (rd : Reg) (s : State) : Word :=
  match rd with
  | 2#5 => s.cp0.count
  | 3#5 => 2#32
  | _ => 0#32

/-- RDHWR may read register `rd` (R401): it exists, and the processor is privileged or HWREna enables it. -/
def hardwareRegisterAllowed (rd : Reg) (s : State) : Bool :=
  decide (rd.toNat ≤ 3) && (s.cop0Usable || s.cp0.hwrEna.getLsbD rd.toNat)

/-- RDHWR (R401): RI for a register that does not exist or is not enabled. -/
def execRdhwr (rt rd : Reg) (s : State) : Out :=
  if hardwareRegisterAllowed rd s then completeReg s rt (hardwareRegister rd s) else takeException .ri s

/-- PREF (R402): no effect, whatever the address. -/
def execPref (_base _hint : BitVec 5) (_offset : BitVec 16) (s : State) : Out := complete s

/-- CACHE (R403): a Coprocessor 0 operation without effect, since there is no cache. -/
def execCache (_base _op : BitVec 5) (_offset : BitVec 16) (s : State) : Out := withCop0 s (complete s)

end Sys2Proof.Machine
end

