-- ==== Sys2Proof/Machine/MultiplyDivide.lean ====
section
/-! DEFINITION. Sys2Proof/Machine/MultiplyDivide.lean: the meanings of multiply, divide and the moves to and from
HI and LO (41_computational.md R295 to R307). -/

namespace Sys2Proof.Machine

open Sys2Proof

/-- MULT (R295): HI || LO is the signed product. -/
def execMult (rs rt : Reg) (s : State) : Out := complete (s.setHiLo (productSigned (s.reg rs) (s.reg rt)))

/-- MULTU (R296): HI || LO is the unsigned product. -/
def execMultu (rs rt : Reg) (s : State) : Out := complete (s.setHiLo (productUnsigned (s.reg rs) (s.reg rt)))

/-- MUL (R297): the low word of the product; HI and LO hold open values (U11). -/
def execMul (rs rt rd : Reg) (s : State) : Out := completeReg s.freeHiLo rd (s.reg rs * s.reg rt)

/-- MADD (R298). -/
def execMadd (rs rt : Reg) (s : State) : Out := complete (s.setHiLo (s.acc + productSigned (s.reg rs) (s.reg rt)))

/-- MADDU (R299). -/
def execMaddu (rs rt : Reg) (s : State) : Out := complete (s.setHiLo (s.acc + productUnsigned (s.reg rs) (s.reg rt)))

/-- MSUB (R300). -/
def execMsub (rs rt : Reg) (s : State) : Out := complete (s.setHiLo (s.acc - productSigned (s.reg rs) (s.reg rt)))

/-- MSUBU (R301). -/
def execMsubu (rs rt : Reg) (s : State) : Out := complete (s.setHiLo (s.acc - productUnsigned (s.reg rs) (s.reg rt)))

/-- DIV (R302): the quotient rounded toward zero in LO, the remainder in HI; in the two corners both hold open
values (U12). -/
def execDiv (rs rt : Reg) (s : State) : Out :=
  if divCorner (s.reg rs) (s.reg rt) then complete s.freeHiLo
  else complete { s with lo := (s.reg rs).sdiv (s.reg rt), hi := (s.reg rs).srem (s.reg rt) }

/-- DIVU (R303): quotient in LO, remainder in HI; by zero both hold open values (U12). -/
def execDivu (rs rt : Reg) (s : State) : Out :=
  if s.reg rt = 0#32 then complete s.freeHiLo
  else complete { s with lo := (s.reg rs).udiv (s.reg rt), hi := (s.reg rs).umod (s.reg rt) }

/-- MFHI (R304). -/
def execMfhi (rd : Reg) (s : State) : Out := completeReg s rd s.hi

/-- MFLO (R305). -/
def execMflo (rd : Reg) (s : State) : Out := completeReg s rd s.lo

/-- MTHI (R306): LO is not changed. -/
def execMthi (rs : Reg) (s : State) : Out := complete { s with hi := s.reg rs }

/-- MTLO (R307): HI is not changed. -/
def execMtlo (rs : Reg) (s : State) : Out := complete { s with lo := s.reg rs }

end Sys2Proof.Machine
end

