-- ==== Sys2Proof/Machine/Cp0.lean ====
section
/-! DEFINITION. Sys2Proof/Machine/Cp0.lean: reading and writing the Coprocessor 0 registers
(10_state.md R30 to R91, 44_coprocessor.md R431, R432). -/

namespace Sys2Proof.Machine

open Sys2Proof

/-- The register at a number and select (10_state.md R30); the trace registers and Debug2 exist where the
parameters say so (R83, R88). -/
def cp0RegOf (c : Config) (rd : Reg) (sel : BitVec 3) : Cp0Reg :=
  match rd, sel with
  | 7#5, 0#3 => .hwrEna
  | 8#5, 0#3 => .badVAddr
  | 9#5, 0#3 => .count
  | 11#5, 0#3 => .compare
  | 12#5, 0#3 => .status
  | 12#5, 1#3 => .intCtl
  | 12#5, 2#3 => .srsCtl
  | 12#5, 3#3 => .srsMap
  | 13#5, 0#3 => .cause
  | 14#5, 0#3 => .epc
  | 15#5, 0#3 => .prid
  | 15#5, 1#3 => .ebase
  | 16#5, 0#3 => .config
  | 16#5, 1#3 => .config1
  | 16#5, 2#3 => .config2
  | 16#5, 3#3 => .config3
  | 23#5, 0#3 => .debugReg
  | 23#5, 1#3 => if c.hasTrace then .traceControl else .reserved
  | 23#5, 2#3 => if c.hasTrace then .traceControl2 else .reserved
  | 23#5, 3#3 => if c.hasTrace then .userTraceData else .reserved
  | 23#5, 4#3 => if c.hasTrace then .traceBPC else .reserved
  | 23#5, 5#3 => if c.hasComplexBreak then .debug2 else .reserved
  | 24#5, 0#3 => .depc
  | 30#5, 0#3 => .errorEpc
  | 31#5, 0#3 => .deSave
  | _, _ => .reserved

/-! ## The words of the registers -/

/-- Status as a word (R37). -/
def Status.toWord (t : Status) : Word :=
  0#3 ++ BitVec.ofBool t.cu0 ++ BitVec.ofBool t.rp ++ 0#1 ++ BitVec.ofBool t.re ++ 0#2 ++ BitVec.ofBool t.bev ++
    0#1 ++ BitVec.ofBool t.sr ++ BitVec.ofBool t.nmi ++ 0#6 ++ t.ipl ++ 0#5 ++ BitVec.ofBool t.um ++ 0#1 ++
    BitVec.ofBool t.erl ++ BitVec.ofBool t.exl ++ BitVec.ofBool t.ie

/-- SRSCtl as a word (R50); a set number is a 4-bit field. -/
def srsCtlWord (hss eicss : SetNum) (t : SrsCtl) : Word :=
  0#4 ++ hss ++ 0#6 ++ eicss ++ 0#4 ++ t.ess ++ 0#4 ++ t.pss ++ 0#4 ++ t.css

/-- Cause as a word (R57). -/
def causeWord (ripl : BitVec 3) (t : Cause) : Word :=
  BitVec.ofBool t.bd ++ BitVec.ofBool t.ti ++ t.ce ++ BitVec.ofBool t.dc ++ 0#3 ++ BitVec.ofBool t.iv ++ 0#10 ++
    ripl ++ BitVec.ofBool t.ip1 ++ BitVec.ofBool t.ip0 ++ 0#1 ++ t.excCode ++ 0#2

/-- Debug[6:0] (R75). -/
def DebugCauses.toBits (t : DebugCauses) : BitVec 7 :=
  BitVec.ofBool t.dibimpr ++ BitVec.ofBool t.dint ++ BitVec.ofBool t.dib ++ BitVec.ofBool t.ddbs ++
    BitVec.ofBool t.ddbl ++ BitVec.ofBool t.dbp ++ BitVec.ofBool t.dss

/-- Debug as a word (R70). -/
def Debug.toWord (t : Debug) : Word :=
  BitVec.ofBool t.dbd ++ BitVec.ofBool t.dm ++ 0#1 ++ BitVec.ofBool t.lsnm ++ BitVec.ofBool t.doze ++
    BitVec.ofBool t.halt ++ BitVec.ofBool t.countdm ++ BitVec.ofBool t.ibusep ++ 0#2 ++ BitVec.ofBool t.dbusep ++
    BitVec.ofBool t.iexi ++ 0#2 ++ 0b010#3 ++ t.dexcCode ++ 0#1 ++ BitVec.ofBool t.sst ++ 0#1 ++ t.causes.toBits

/-- Config as a word (R63): K23 reads 0b010, DS 1, AR 1, MT 3. -/
def configWord (ku k0 : BitVec 3) : Word := 1#1 ++ 0b010#3 ++ ku ++ 0#8 ++ 1#1 ++ 0#3 ++ 0b001#3 ++ 0b011#3 ++ 0#4 ++ k0

/-- The bits of TraceControl that are implemented and writable (R84); bit 4 reads 1, the others 0. -/
def traceControlMask : Word := 0xCFA0000F#32

/-- The bits of TraceBPC that are implemented (R87). -/
def traceBPCMask : Word := 0x8003803F#32

/-- The bits of Debug that a read outside Debug mode defines: DM and VER (R71). -/
def debugValidMask : Word := 0x40038000#32

/-- The fields of TraceControl2 that the Trace Control Block loads: TBI, TBU and SYP (R85). -/
def traceBlockMask : Word := 0x0000001F#32

/-- The word a register holds, each field at its place and each constant bit at its value. -/
def State.cp0Word (s : State) : Cp0Reg → Word
  | .hwrEna => 0#28 ++ s.cp0.hwrEna
  | .badVAddr => s.cp0.badVAddr
  | .count => s.cp0.count
  | .compare => s.cp0.compare
  | .status => s.cp0.status.toWord
  | .intCtl => 0#22 ++ s.cp0.vs ++ 0#5
  | .srsCtl => srsCtlWord s.cfg.shadowSets.hss s.intReq.eicss s.cp0.srs
  | .srsMap => s.cp0.srsMap
  | .cause => causeWord s.intReq.ripl s.cp0.cause
  | .epc => s.cp0.epc
  | .prid => 0x000187#24 ++ Config.pridRev
  | .ebase => 0b10#2 ++ s.cp0.ebase ++ 0x000#12
  | .config => configWord s.cp0.ku s.cp0.k0
  | .config1 => 0x80000006#32
  | .config2 => 0x80000000#32
  | .config3 => 0x00000060#32
  | .debugReg => s.cp0.dbg.toWord
  | .traceControl => s.cp0.traceControl
  | .traceControl2 => 0#25 ++ 0b10#2 ++ s.cp0.tcb
  | .userTraceData => s.cp0.userTraceData
  | .traceBPC => s.cp0.traceBPC
  | .debug2 => 1#1 ++ 0#27 ++ s.cp0.debug2
  | .depc => s.cp0.depc
  | .errorEpc => s.cp0.errorEpc
  | .deSave => s.cp0.deSave
  | .reserved => 0#32

/-- A read of a register: its word, and the state after, in which a free value may have been drawn. A reserved
register gives a free value (R31, U19); so does SRSMap on a core with HSS = 0 (R56, U14); Debug outside Debug mode
gives DM and VER and is free elsewhere (R71, U7); TBI, TBU and SYP of TraceControl2 are free until the Trace Control
Block has loaded them (R85, U16). -/
def readCp0 (r : Cp0Reg) (s : State) : Word × State :=
  match r with
  | .reserved => (s.freeWord 0, s.drawn 1)
  | .srsMap =>
    if s.cfg.shadowSets = .one then (s.freeWord 0, s.drawn 1) else (s.cp0Word .srsMap, s)
  | .debugReg =>
    if s.cp0.dbg.dm then (s.cp0Word .debugReg, s)
    else ((s.cp0Word .debugReg &&& debugValidMask) ||| (s.freeWord 0 &&& ~~~debugValidMask), s.drawn 1)
  | .traceControl2 =>
    if s.cp0.tcbLoaded then (s.cp0Word .traceControl2, s)
    else ((s.cp0Word .traceControl2 &&& ~~~traceBlockMask) ||| (s.freeWord 0 &&& traceBlockMask), s.drawn 1)
  | r => (s.cp0Word r, s)

/-! ## Writes (44_coprocessor.md R432) -/

/-- Status after a write of `v`: SR and NMI can only be cleared (R42, R43). -/
def Status.write (t : Status) (v : Word) : Status :=
  { cu0 := v.getLsbD 28, rp := v.getLsbD 27, re := v.getLsbD 25, bev := v.getLsbD 22, sr := t.sr && v.getLsbD 20,
    nmi := t.nmi && v.getLsbD 19, ipl := v.extractLsb' 10 3, um := v.getLsbD 4, erl := v.getLsbD 2,
    exl := v.getLsbD 1, ie := v.getLsbD 0 }

/-- Cause after a write of `v`: only DC, IV, IP1 and IP0 change (R59). -/
def Cause.write (t : Cause) (v : Word) : Cause :=
  { t with dc := v.getLsbD 27, iv := v.getLsbD 23, ip1 := v.getLsbD 9, ip0 := v.getLsbD 8 }

/-- Debug after a write of `v` in Debug mode (R70). IBUSEP and DBUSEP are set by a 1 and cleared only when their
exception is taken and by Reset (R73; log entry 18). -/
def Debug.write (t : Debug) (v : Word) : Debug :=
  { t with
    lsnm := v.getLsbD 28
    countdm := v.getLsbD 25
    ibusep := t.ibusep || v.getLsbD 24
    dbusep := t.dbusep || v.getLsbD 21
    iexi := v.getLsbD 20
    sst := v.getLsbD 8 }

/-- The legal values of IntCtl.VS (R49). -/
def legalSpacing (vs : BitVec 5) : Bool :=
  vs == 0x00#5 || vs == 0x01#5 || vs == 0x02#5 || vs == 0x04#5 || vs == 0x08#5 || vs == 0x10#5

/-- The defined cache coherency attributes (R64). -/
def legalCoherency (c : BitVec 3) : Bool := c == 0b010#3 || c == 0b011#3

/-- The 4-bit field of `v` at bit `lsb` names a set that exists (R51). -/
def setFieldOk (hss : SetNum) (v : Word) (lsb : Nat) : Bool := decide ((v.extractLsb' lsb 4).toNat ≤ hss.toNat)

/-- Every field of an SRSMap value names a set that exists (R56). -/
def srsMapOk (hss : SetNum) (v : Word) : Bool := [0, 4, 8, 12, 16, 20, 24, 28].all (setFieldOk hss v)

/-- Coprocessor 0 after a write of `v` to a register, or the refusal of a write that the manual calls undefined
(R432, U2 to U7, U14). `s` is the state in which the MTC0 executes. -/
def writeCp0 (r : Cp0Reg) (v : Word) (s : State) : Except Refusal Cp0 :=
  let c := s.cp0
  let hss := s.cfg.shadowSets.hss
  match r with
  | .hwrEna => .ok { c with hwrEna := v.extractLsb' 0 4 }
  | .badVAddr => .ok c
  | .count => .ok { c with count := v, cause := { c.cause with ti := c.cause.ti || v == c.compare } }
  | .compare => .ok { c with compare := v, cause := { c.cause with ti := false } }
  | .status =>
    if v.getLsbD 2 && decide (s.pc.toNat < 0x80000000) then .error .erlInKuseg
    else .ok { c with status := c.status.write v }
  | .intCtl =>
    if legalSpacing (v.extractLsb' 5 5) then .ok { c with vs := v.extractLsb' 5 5 }
    else .error .reservedVectorSpacing
  | .srsCtl =>
    if setFieldOk hss v 12 && setFieldOk hss v 6 then
      .ok { c with srs := { c.srs with ess := v.extractLsb' 12 2, pss := v.extractLsb' 6 2 } }
    else .error .shadowSetAboveHss
  | .srsMap =>
    if s.cfg.shadowSets = .one then .error .srsMapAbsent
    else if srsMapOk hss v then .ok { c with srsMap := v }
    else .error .shadowSetAboveHss
  | .cause => .ok { c with cause := c.cause.write v }
  | .epc => .ok { c with epc := v }
  | .prid => .ok c
  | .ebase =>
    if !c.status.bev && v.extractLsb' 12 18 != c.ebase then .error .ebaseWithoutBev
    else .ok { c with ebase := v.extractLsb' 12 18 }
  | .config =>
    if legalCoherency (v.extractLsb' 25 3) && legalCoherency (v.extractLsb' 0 3) then
      .ok { c with ku := v.extractLsb' 25 3, k0 := v.extractLsb' 0 3 }
    else .error .reservedCoherency
  | .config1 => .ok c
  | .config2 => .ok c
  | .config3 => .ok c
  | .debugReg => if c.dbg.dm then .ok { c with dbg := c.dbg.write v } else .error .debugWriteOutsideDebugMode
  | .traceControl => .ok { c with traceControl := (v &&& traceControlMask) ||| 0x00000010#32 }
  | .traceControl2 => .ok c
  | .userTraceData => .ok { c with userTraceData := v }
  | .traceBPC => .ok { c with traceBPC := v &&& traceBPCMask }
  | .debug2 => .ok c
  | .depc => .ok { c with depc := v }
  | .errorEpc => .ok { c with errorEpc := v }
  | .deSave => .ok { c with deSave := v }
  | .reserved => .ok c

end Sys2Proof.Machine
end

