-- ==== Sys2Proof/Machine/Hazards.lean ====
section
/-! DEFINITION. Sys2Proof/Machine/Hazards.lean: the scoreboard of the execution hazards and the instruction hazard
(70_reset_and_hazards.md R571 to R574): which a write creates, which instruction sees one, and how they run out. -/

namespace Sys2Proof.Machine

open Sys2Proof

/-! ## Creating hazards -/

/-- The scoreboard entry of a row, created by an instruction that executes in state `s`. -/
def hazardEntry (row : HazardRow) (reg : Cp0Reg) (left : Nat) (s : State) : Hazard :=
  { row := row, reg := reg, old := s.cp0, left := left }

/-- The rows of Table 2-1 for an MTC0 to register `r` that takes state `s` to `t` (R571). -/
def namedRows (r : Cp0Reg) (s t : State) : List Hazard :=
  match r with
  | .status =>
    (if s.cp0.status.cu0 = t.cp0.status.cu0 then [] else [hazardEntry .cu0 .status 1 s]) ++
      (if s.cp0.status.ie = t.cp0.status.ie then [] else [hazardEntry .ie .status 1 s])
  | .cause =>
    if s.cp0.cause.ip1 = t.cp0.cause.ip1 ∧ s.cp0.cause.ip0 = t.cp0.cause.ip0 then []
    else [hazardEntry .ip .cause 3 s]
  | .srsCtl => if s.cp0.srs.pss = t.cp0.srs.pss then [] else [hazardEntry .pss .srsCtl 1 s]
  | .epc => [hazardEntry .returnPc .epc 1 s]
  | .depc => [hazardEntry .returnPc .depc 1 s]
  | .errorEpc => [hazardEntry .returnPc .errorEpc 1 s]
  | .compare => [hazardEntry .compare .compare 4 s]
  | .hwrEna | .badVAddr | .count | .intCtl | .srsMap | .prid | .ebase | .config | .config1 | .config2 | .config3
  | .debugReg | .traceControl | .traceControl2 | .userTraceData | .traceBPC | .debug2 | .deSave | .reserved => []

/-- The hazards an MTC0 to register `r` creates: none where the register keeps its value, since then the old and the
new value are the same (log entry 39). A write of Count or Compare that changes Cause.TI changes Cause too. -/
def createdHazards (r : Cp0Reg) (s t : State) : List Hazard :=
  (if s.cp0Word r = t.cp0Word r then [] else hazardEntry .other r 2 s :: namedRows r s t) ++
    (if s.cp0.cause.ti = t.cp0.cause.ti then [] else [hazardEntry .other .cause 2 s])

/-- The Status values under which a fetch may still be made, after an MTC0 that takes `s` to `t` (R572): one more
where UM, EXL or ERL changed. -/
def createdStale (s t : State) : List Status :=
  let a := s.cp0.status
  let b := t.cp0.status
  if a.um = b.um ∧ a.exl = b.exl ∧ a.erl = b.erl then [] else [a]

/-- `t`, the state after an MTC0 to `r` executed in `s`, with the hazards it creates. -/
def noteWrite (r : Cp0Reg) (s t : State) : State :=
  { t with hazards := createdHazards r s t ++ t.hazards, staleStatus := createdStale s t ++ t.staleStatus }

/-- `t`, the state after a DI or EI executed in `s`, with the hazard on IE (R571). -/
def noteInterruptEnable (s t : State) : State :=
  if s.cp0.status.ie = t.cp0.status.ie then t
  else { t with hazards := hazardEntry .ie .status 1 s :: t.hazards }

/-! ## Counting down -/

/-- The core's next step begins: every counter goes down by one, and one at its end leaves the scoreboard (R574). -/
def tickHazards (l : List Hazard) : List Hazard :=
  (l.filter fun h => decide (0 < h.left)).map fun h => { h with left := h.left - 1 }

/-- The state in which an instruction executes, or an interrupt is sampled: the step of the scoreboard made. -/
def State.ticked (s : State) : State := { s with hazards := tickHazards s.hazards }

/-! ## Seeing hazards -/

/-- A row on a register is pending. -/
def rowPending (row : HazardRow) (reg : Cp0Reg) (s : State) : Bool :=
  s.hazards.any fun h => decide (h.row = row) && decide (h.reg = reg)

/-- The state as an instruction that still sees `c` in Coprocessor 0 finds it. -/
def State.withCp0 (s : State) (c : Cp0) : State := { s with cp0 := c }

/-- Coprocessor 0 is usable, as an instruction that sees `c` finds it (44_coprocessor.md R430). -/
def cop0UsableUnder (c : Cp0) : Bool := cop0UsableIn c.dbg.dm c.status

/-- Whether Coprocessor 0 is usable depends on a pending write. -/
def cop0Hazard (s : State) : Bool := s.sees cop0UsableUnder

/-- The outcome of the checks of a data access depends on a pending write. -/
def accessHazard (kind : DataKind) (n : Nat) (va : Word) (s : State) : Bool :=
  s.sees fun c => checkAccess kind n va (s.withCp0 c)

/-- The word that SYNCI synchronizes depends on a pending write of Status.ERL (43_miscellaneous.md R381). -/
def synciHazard (va : Word) (s : State) : Bool := s.sees fun c => wordAddr (translate c.status.erl va)

/-- MFC0, DI and EI read a register with a pending write. -/
def readHazard (r : Cp0Reg) (s : State) : Bool := rowPending .other r s

/-- What an MTC0 of `v` to register `r` does, as an instruction that sees `c` finds it: it is refused, or what the
register and Cause.TI hold after it. -/
def writeOutcome (r : Cp0Reg) (v : Word) (s : State) (c : Cp0) : Option (Word × Bool) :=
  match writeCp0 r v (s.withCp0 c) with
  | .ok c' => some ((s.withCp0 c').cp0Word r, c'.cause.ti)
  | .error _ => none

/-- What an MTC0 does depends on a pending write: Ebase on BEV (10_state.md R62), Status.SR and NMI on themselves (R42,
R43), Count on Compare (60_exceptions.md R521), Debug's pending bits on themselves (10_state.md R73). -/
def writeHazard (r : Cp0Reg) (v : Word) (s : State) : Bool := s.sees (writeOutcome r v s)

/-- Whether Coprocessor 0 is usable for ERET depends on a pending write. The spacing of ERET on Status is 0, but on CU0,
which has a row of its own, 1 (R571). -/
def eretUseHazard (s : State) : Bool :=
  (viewsThrough (s.hazards.filter fun h => decide (h.row = .cu0)) s.cp0).any fun c =>
    cop0UsableUnder c != cop0UsableUnder s.cp0

/-- ERET reads EPC or ErrorEPC, and SRSCtl.PSS where it copies it into CSS (44_coprocessor.md R437). For Status the
spacing is 0 (R571). -/
def eretHazard (s : State) : Bool :=
  if s.cp0.status.erl then rowPending .returnPc .errorEpc s
  else rowPending .returnPc .epc s || (!s.cp0.status.bev && rowPending .other .srsCtl s)

/-- RDHWR depends on the mode, on CU0 and on HWREna, and reads Count (43_miscellaneous.md R401). -/
def rdhwrHazard (rd : Reg) (s : State) : Bool :=
  (s.sees fun c => hardwareRegisterAllowed rd (s.withCp0 c)) ||
    (hardwareRegisterAllowed rd s && decide (rd = 2#5) && rowPending .other .count s)

/-- An instruction sees a pending hazard (R574): in `s`, what it reads or depends on, but for the entry of an exception
it takes, which `takeException` looks at. -/
def hazardSeen (i : Instr) (s : State) : Bool :=
  match i with
  | .lb base _ offset => accessHazard .load 1 (s.effectiveAddress base offset) s
  | .lbu base _ offset => accessHazard .load 1 (s.effectiveAddress base offset) s
  | .lh base _ offset => accessHazard .load 2 (s.effectiveAddress base offset) s
  | .lhu base _ offset => accessHazard .load 2 (s.effectiveAddress base offset) s
  | .lw base _ offset => accessHazard .load 4 (s.effectiveAddress base offset) s
  | .lwl base _ offset => accessHazard .load 1 (s.effectiveAddress base offset) s
  | .lwr base _ offset => accessHazard .load 1 (s.effectiveAddress base offset) s
  | .sb base _ offset => accessHazard .store 1 (s.effectiveAddress base offset) s
  | .sh base _ offset => accessHazard .store 2 (s.effectiveAddress base offset) s
  | .sw base _ offset => accessHazard .store 4 (s.effectiveAddress base offset) s
  | .swl base _ offset => accessHazard .store 1 (s.effectiveAddress base offset) s
  | .swr base _ offset => accessHazard .store 1 (s.effectiveAddress base offset) s
  | .ll base _ offset => accessHazard .load 4 (s.effectiveAddress base offset) s
  | .sc base _ offset => accessHazard .store 4 (s.effectiveAddress base offset) s
  | .rdhwr _ rd => rdhwrHazard rd s
  | .cache .. => cop0Hazard s
  | .mfc0 _ rd sel => cop0Hazard s || (s.cop0Usable && readHazard (cp0RegOf s.cfg rd sel) s)
  | .mtc0 rt rd sel => cop0Hazard s || (s.cop0Usable && writeHazard (cp0RegOf s.cfg rd sel) (s.reg rt) s)
  | .di _ => cop0Hazard s || (s.cop0Usable && readHazard .status s)
  | .ei _ => cop0Hazard s || (s.cop0Usable && readHazard .status s)
  | .rdpgpr .. => cop0Hazard s || (s.cop0Usable && rowPending .pss .srsCtl s)
  | .wrpgpr .. => cop0Hazard s || (s.cop0Usable && rowPending .pss .srsCtl s)
  | .synci base offset => synciHazard (s.effectiveAddress base offset) s
  | .eret => eretUseHazard s || (s.cop0Usable && eretHazard s)
  | .deret => cop0Hazard s || (s.cop0Usable && s.cp0.dbg.dm && rowPending .returnPc .depc s)
  | .wait .. => cop0Hazard s
  | .tlbr => cop0Hazard s
  | .tlbwi => cop0Hazard s
  | .tlbwr => cop0Hazard s
  | .tlbp => cop0Hazard s
  | .add .. | .addu .. | .sub .. | .subu .. | .slt .. | .sltu .. | .and_ .. | .or_ .. | .xor_ .. | .nor_ ..
  | .addi .. | .addiu .. | .slti .. | .sltiu .. | .andi .. | .ori .. | .xori .. | .lui .. | .nop | .ssnop | .ehb
  | .sll .. | .srl .. | .sra .. | .sllv .. | .srlv .. | .srav .. | .rotr .. | .rotrv .. | .clz .. | .clo ..
  | .ext .. | .ins .. | .seb .. | .seh .. | .wsbh .. | .mult .. | .multu .. | .mul .. | .madd .. | .maddu ..
  | .msub .. | .msubu .. | .div .. | .divu .. | .mfhi .. | .mflo .. | .mthi .. | .mtlo .. | .j .. | .jal ..
  | .jr .. | .jalr .. | .jrHb .. | .jalrHb .. | .jalx .. | .beq .. | .bne .. | .blez .. | .bgtz .. | .bltz ..
  | .bgez .. | .bltzal .. | .bgezal .. | .bltzl .. | .bgezl .. | .bltzall .. | .bgezall .. | .beql .. | .bnel ..
  | .blezl .. | .bgtzl .. | .sync .. | .syscall .. | .break_ .. | .tge .. | .tgeu .. | .tlt ..
  | .tltu .. | .teq .. | .tne .. | .tgei .. | .tgeiu .. | .tlti .. | .tltiu .. | .teqi .. | .tnei .. | .sdbbp ..
  | .movn .. | .movz .. | .movci .. | .pref .. | .cop1 .. | .cop2 .. | .cop1x .. | .lwc1 .. | .ldc1 .. | .swc1 ..
  | .sdc1 .. | .lwc2 .. | .ldc2 .. | .swc2 .. | .sdc2 .. => false

/-- The fetch at the program counter under a Status value: none where User mode may not make it, else the physical
address (20_memory.md R140). -/
def fetchView (s : State) (v : Status) : Option Word :=
  if inUserMode s.cp0.dbg.dm v && s.pc.msb then none else some (translate v.erl s.pc)

/-- The fetch at the program counter would differ between the old and the new Status (R574). -/
def fetchHazard (s : State) : Bool :=
  s.staleStatus.any fun v => decide (fetchView s v ≠ fetchView s s.cp0.status)

end Sys2Proof.Machine
end

