-- ==== Sys2Proof/Machine/System.lean ====
section
/-! DEFINITION. Sys2Proof/Machine/System.lean: the meanings of the Coprocessor 0 instructions
(44_coprocessor.md R430 to R440). -/

namespace Sys2Proof.Machine

open Sys2Proof

/-- MFC0 (R431). -/
def execMfc0 (rt rd : Reg) (sel : BitVec 3) (s : State) : Out :=
  withCop0 s <|
    let (v, t) := readCp0 (cp0RegOf s.cfg rd sel) s
    completeReg t rt v

/-- MTC0 (R432): the write, its side effects and the hazards it creates. DESIGN CHOICE: the hazards are recorded after
the instruction is complete, so the barrier of a JR.HB or JALR.HB does not clear those of its own delay slot (log
entry 41); `execDi` and `execEi` do the same. -/
def execMtc0 (rt rd : Reg) (sel : BitVec 3) (s : State) : Out :=
  withCop0 s <|
    let r := cp0RegOf s.cfg rd sel
    match writeCp0 r (s.reg rt) s with
    | .error why => .refused why
    | .ok c => .next (noteWrite r s { s.advance with cp0 := c })

/-- Status with IE at a value. -/
def Cp0.withIe (c : Cp0) (b : Bool) : Cp0 := { c with status := { c.status with ie := b } }

/-- DI (R433): `rt` receives Status, then IE is cleared, in one step. -/
def execDi (rt : Reg) (s : State) : Out :=
  withCop0 s <|
    .next (noteInterruptEnable s
      { (s.setReg rt (s.cp0Word .status)).advance with cp0 := s.cp0.withIe false })

/-- EI (R434): `rt` receives Status, then IE is set, in one step. -/
def execEi (rt : Reg) (s : State) : Out :=
  withCop0 s <|
    .next (noteInterruptEnable s
      { (s.setReg rt (s.cp0Word .status)).advance with cp0 := s.cp0.withIe true })

/-- RDPGPR (R435): `rd` of the current set receives `rt` of the previous set. -/
def execRdpgpr (rt rd : Reg) (s : State) : Out := withCop0 s (completeReg s rd (s.regOf s.cp0.srs.pss rt))

/-- WRPGPR (R436): `rd` of the previous set receives `rt` of the current set. -/
def execWrpgpr (rt rd : Reg) (s : State) : Out := withCop0 s (complete (s.setRegOf s.cp0.srs.pss rd (s.reg rt)))

/-- ERET (R437): refused in a delay slot (U1). -/
def execEret (s : State) : Out := withCop0 s (controlTransfer s (returnFromException s))

/-- DERET (R438): refused in a delay slot (U1); RI outside Debug mode. -/
def execDeret (s : State) : Out :=
  withCop0 s (outsideSlot s (if s.cp0.dbg.dm then .next (returnFromDebug s) else takeException .ri s))

/-- WAIT (R439): the core waits at the next instruction; refused in a delay slot (U13). -/
def execWait (_code : BitVec 19) (s : State) : Out :=
  withCop0 s <|
    if s.inDelaySlot then .refused .waitInDelaySlot else .next { s.advance with waiting := true }

/-- TLBR (R440): there is no TLB. -/
def execTlbr (s : State) : Out := withCop0 s (.refused .noTlb)

/-- TLBWI (R440): there is no TLB. -/
def execTlbwi (s : State) : Out := withCop0 s (.refused .noTlb)

/-- TLBWR (R440): there is no TLB. -/
def execTlbwr (s : State) : Out := withCop0 s (.refused .noTlb)

/-- TLBP (R440): there is no TLB. -/
def execTlbp (s : State) : Out := withCop0 s (.refused .noTlb)

end Sys2Proof.Machine
end

