-- ==== Sys2Proof/Machine/Dispatch.lean ====
section
/-! DEFINITION. Sys2Proof/Machine/Dispatch.lean: one arm per instruction, each one call of its meaning. -/

namespace Sys2Proof.Machine

def exec (i : Instr) (s : State) : Host.Outcome State Fault Refusal :=
  match i with
  | .lb base rt offset => Sys2Proof.Machine.execLb base rt offset s
  | .lbu base rt offset => Sys2Proof.Machine.execLbu base rt offset s
  | .lh base rt offset => Sys2Proof.Machine.execLh base rt offset s
  | .lhu base rt offset => Sys2Proof.Machine.execLhu base rt offset s
  | .lw base rt offset => Sys2Proof.Machine.execLw base rt offset s
  | .lwl base rt offset => Sys2Proof.Machine.execLwl base rt offset s
  | .lwr base rt offset => Sys2Proof.Machine.execLwr base rt offset s
  | .sb base rt offset => Sys2Proof.Machine.execSb base rt offset s
  | .sh base rt offset => Sys2Proof.Machine.execSh base rt offset s
  | .sw base rt offset => Sys2Proof.Machine.execSw base rt offset s
  | .swl base rt offset => Sys2Proof.Machine.execSwl base rt offset s
  | .swr base rt offset => Sys2Proof.Machine.execSwr base rt offset s
  | .ll base rt offset => Sys2Proof.Machine.execLl base rt offset s
  | .sc base rt offset => Sys2Proof.Machine.execSc base rt offset s
  | .add rs rt rd => Sys2Proof.Machine.execAdd rs rt rd s
  | .addu rs rt rd => Sys2Proof.Machine.execAddu rs rt rd s
  | .sub rs rt rd => Sys2Proof.Machine.execSub rs rt rd s
  | .subu rs rt rd => Sys2Proof.Machine.execSubu rs rt rd s
  | .slt rs rt rd => Sys2Proof.Machine.execSlt rs rt rd s
  | .sltu rs rt rd => Sys2Proof.Machine.execSltu rs rt rd s
  | .and_ rs rt rd => Sys2Proof.Machine.execAnd rs rt rd s
  | .or_ rs rt rd => Sys2Proof.Machine.execOr rs rt rd s
  | .xor_ rs rt rd => Sys2Proof.Machine.execXor rs rt rd s
  | .nor_ rs rt rd => Sys2Proof.Machine.execNor rs rt rd s
  | .addi rs rt imm => Sys2Proof.Machine.execAddi rs rt imm s
  | .addiu rs rt imm => Sys2Proof.Machine.execAddiu rs rt imm s
  | .slti rs rt imm => Sys2Proof.Machine.execSlti rs rt imm s
  | .sltiu rs rt imm => Sys2Proof.Machine.execSltiu rs rt imm s
  | .andi rs rt imm => Sys2Proof.Machine.execAndi rs rt imm s
  | .ori rs rt imm => Sys2Proof.Machine.execOri rs rt imm s
  | .xori rs rt imm => Sys2Proof.Machine.execXori rs rt imm s
  | .lui rt imm => Sys2Proof.Machine.execLui rt imm s
  | .nop => Sys2Proof.Machine.execNop s
  | .ssnop => Sys2Proof.Machine.execSsnop s
  | .ehb => Sys2Proof.Machine.execEhb s
  | .sll rt rd sa => Sys2Proof.Machine.execSll rt rd sa s
  | .srl rt rd sa => Sys2Proof.Machine.execSrl rt rd sa s
  | .sra rt rd sa => Sys2Proof.Machine.execSra rt rd sa s
  | .sllv rs rt rd => Sys2Proof.Machine.execSllv rs rt rd s
  | .srlv rs rt rd => Sys2Proof.Machine.execSrlv rs rt rd s
  | .srav rs rt rd => Sys2Proof.Machine.execSrav rs rt rd s
  | .rotr rt rd sa => Sys2Proof.Machine.execRotr rt rd sa s
  | .rotrv rs rt rd => Sys2Proof.Machine.execRotrv rs rt rd s
  | .clz rs rt rd => Sys2Proof.Machine.execClz rs rt rd s
  | .clo rs rt rd => Sys2Proof.Machine.execClo rs rt rd s
  | .ext rs rt msbd lsb => Sys2Proof.Machine.execExt rs rt msbd lsb s
  | .ins rs rt msb lsb => Sys2Proof.Machine.execIns rs rt msb lsb s
  | .seb rt rd => Sys2Proof.Machine.execSeb rt rd s
  | .seh rt rd => Sys2Proof.Machine.execSeh rt rd s
  | .wsbh rt rd => Sys2Proof.Machine.execWsbh rt rd s
  | .mult rs rt => Sys2Proof.Machine.execMult rs rt s
  | .multu rs rt => Sys2Proof.Machine.execMultu rs rt s
  | .mul rs rt rd => Sys2Proof.Machine.execMul rs rt rd s
  | .madd rs rt => Sys2Proof.Machine.execMadd rs rt s
  | .maddu rs rt => Sys2Proof.Machine.execMaddu rs rt s
  | .msub rs rt => Sys2Proof.Machine.execMsub rs rt s
  | .msubu rs rt => Sys2Proof.Machine.execMsubu rs rt s
  | .div rs rt => Sys2Proof.Machine.execDiv rs rt s
  | .divu rs rt => Sys2Proof.Machine.execDivu rs rt s
  | .mfhi rd => Sys2Proof.Machine.execMfhi rd s
  | .mflo rd => Sys2Proof.Machine.execMflo rd s
  | .mthi rs => Sys2Proof.Machine.execMthi rs s
  | .mtlo rs => Sys2Proof.Machine.execMtlo rs s
  | .j index => Sys2Proof.Machine.execJ index s
  | .jal index => Sys2Proof.Machine.execJal index s
  | .jr rs => Sys2Proof.Machine.execJr rs s
  | .jalr rs rd => Sys2Proof.Machine.execJalr rs rd s
  | .jrHb rs => Sys2Proof.Machine.execJrHb rs s
  | .jalrHb rs rd => Sys2Proof.Machine.execJalrHb rs rd s
  | .jalx index => Sys2Proof.Machine.execJalx index s
  | .beq rs rt offset => Sys2Proof.Machine.execBeq rs rt offset s
  | .bne rs rt offset => Sys2Proof.Machine.execBne rs rt offset s
  | .blez rs offset => Sys2Proof.Machine.execBlez rs offset s
  | .bgtz rs offset => Sys2Proof.Machine.execBgtz rs offset s
  | .bltz rs offset => Sys2Proof.Machine.execBltz rs offset s
  | .bgez rs offset => Sys2Proof.Machine.execBgez rs offset s
  | .bltzal rs offset => Sys2Proof.Machine.execBltzal rs offset s
  | .bgezal rs offset => Sys2Proof.Machine.execBgezal rs offset s
  | .bltzl rs offset => Sys2Proof.Machine.execBltzl rs offset s
  | .bgezl rs offset => Sys2Proof.Machine.execBgezl rs offset s
  | .bltzall rs offset => Sys2Proof.Machine.execBltzall rs offset s
  | .bgezall rs offset => Sys2Proof.Machine.execBgezall rs offset s
  | .beql rs rt offset => Sys2Proof.Machine.execBeql rs rt offset s
  | .bnel rs rt offset => Sys2Proof.Machine.execBnel rs rt offset s
  | .blezl rs offset => Sys2Proof.Machine.execBlezl rs offset s
  | .bgtzl rs offset => Sys2Proof.Machine.execBgtzl rs offset s
  | .sync stype => Sys2Proof.Machine.execSync stype s
  | .synci base offset => Sys2Proof.Machine.execSynci base offset s
  | .syscall code => Sys2Proof.Machine.execSyscall code s
  | .break_ code => Sys2Proof.Machine.execBreak code s
  | .tge rs rt code => Sys2Proof.Machine.execTge rs rt code s
  | .tgeu rs rt code => Sys2Proof.Machine.execTgeu rs rt code s
  | .tlt rs rt code => Sys2Proof.Machine.execTlt rs rt code s
  | .tltu rs rt code => Sys2Proof.Machine.execTltu rs rt code s
  | .teq rs rt code => Sys2Proof.Machine.execTeq rs rt code s
  | .tne rs rt code => Sys2Proof.Machine.execTne rs rt code s
  | .tgei rs imm => Sys2Proof.Machine.execTgei rs imm s
  | .tgeiu rs imm => Sys2Proof.Machine.execTgeiu rs imm s
  | .tlti rs imm => Sys2Proof.Machine.execTlti rs imm s
  | .tltiu rs imm => Sys2Proof.Machine.execTltiu rs imm s
  | .teqi rs imm => Sys2Proof.Machine.execTeqi rs imm s
  | .tnei rs imm => Sys2Proof.Machine.execTnei rs imm s
  | .sdbbp code => Sys2Proof.Machine.execSdbbp code s
  | .movn rs rt rd => Sys2Proof.Machine.execMovn rs rt rd s
  | .movz rs rt rd => Sys2Proof.Machine.execMovz rs rt rd s
  | .movci rs cc b17 tf rd low => Sys2Proof.Machine.execMovci rs cc b17 tf rd low s
  | .rdhwr rt rd => Sys2Proof.Machine.execRdhwr rt rd s
  | .pref base hint offset => Sys2Proof.Machine.execPref base hint offset s
  | .cache base op offset => Sys2Proof.Machine.execCache base op offset s
  | .mfc0 rt rd sel => Sys2Proof.Machine.execMfc0 rt rd sel s
  | .mtc0 rt rd sel => Sys2Proof.Machine.execMtc0 rt rd sel s
  | .di rt => Sys2Proof.Machine.execDi rt s
  | .ei rt => Sys2Proof.Machine.execEi rt s
  | .rdpgpr rt rd => Sys2Proof.Machine.execRdpgpr rt rd s
  | .wrpgpr rt rd => Sys2Proof.Machine.execWrpgpr rt rd s
  | .eret => Sys2Proof.Machine.execEret s
  | .deret => Sys2Proof.Machine.execDeret s
  | .wait code => Sys2Proof.Machine.execWait code s
  | .tlbr => Sys2Proof.Machine.execTlbr s
  | .tlbwi => Sys2Proof.Machine.execTlbwi s
  | .tlbwr => Sys2Proof.Machine.execTlbwr s
  | .tlbp => Sys2Proof.Machine.execTlbp s
  | .cop1 bits => Sys2Proof.Machine.execCop1 bits s
  | .cop2 bits => Sys2Proof.Machine.execCop2 bits s
  | .cop1x bits => Sys2Proof.Machine.execCop1x bits s
  | .lwc1 base ft offset => Sys2Proof.Machine.execLwc1 base ft offset s
  | .ldc1 base ft offset => Sys2Proof.Machine.execLdc1 base ft offset s
  | .swc1 base ft offset => Sys2Proof.Machine.execSwc1 base ft offset s
  | .sdc1 base ft offset => Sys2Proof.Machine.execSdc1 base ft offset s
  | .lwc2 base rt offset => Sys2Proof.Machine.execLwc2 base rt offset s
  | .ldc2 base rt offset => Sys2Proof.Machine.execLdc2 base rt offset s
  | .swc2 base rt offset => Sys2Proof.Machine.execSwc2 base rt offset s
  | .sdc2 base rt offset => Sys2Proof.Machine.execSdc2 base rt offset s

end Sys2Proof.Machine
end

