-- ==== Sys2Proof/Machine/Fetch.lean ====
section
/-! DEFINITION. Sys2Proof/Machine/Fetch.lean: the instruction fetch (20_memory.md R140, R149,
45_mips16e.md R465), and placing an instruction where the next fetch finds it. -/

namespace Sys2Proof.Machine

open Sys2Proof

/-- The outcome of a fetch. -/
inductive Fetched where
  /-- The instruction word. -/
  | word (w : Word)
  /-- The step ends here. -/
  | stop (o : Out)

/-- The word at a word address may be fetched now (R149). -/
def fetchCoherent (c : Config) (l : List (Nat × CodeState)) (wa : Nat) : Except Refusal Unit :=
  match c.fetchCoherence, codeStateAt l wa with
  | .always, _ => .ok ()
  | .barrier, .clean => .ok ()
  | .barrier, .stored => .error .fetchNotSynchronized
  | .barrier, .synced => .error .fetchNotSynchronized
  | .barrier, .foreign => .error .fetchForeignCode

/-- A bus error on a fetch (60_exceptions.md R478). -/
def fetchBusError (s : State) : Out :=
  match s.cfg.busErrorMode with
  | .fault => .fault (.fetchBusError s.pc)
  | .precise => takeException .ibe s

/-- The word of storage at a word address, where it may be fetched now. -/
def fetchStorage (s : State) (wa : Nat) : Fetched :=
  match fetchCoherent s.cfg s.codeWords wa with
  | .ok () => .word (readWord s.mem wa)
  | .error r => .stop (.refused r)

/-- The fetch of a MIPS32 instruction at the program counter (R140): an unaligned or kernel-only address raises AdEL, the
instruction hazard refuses, then the translation and the target. In MIPS16e mode no fetch is made (`mips32Only`). -/
def fetch (s : State) : Fetched :=
  if s.pc.toNat % 4 ≠ 0 then .stop (takeException (.adel s.pc) s)
  else if fetchHazard s then .stop (.refused .instructionHazard)
  else if s.userMode && s.pc.msb then .stop (takeException (.adel s.pc) s)
  else if s.cp0.dbg.dm && inDseg s.pc then .stop (.refused .dseg)
  else
    let wa := wordAddr (translate s.cp0.status.erl s.pc)
    match fetchTarget s.cfg wa with
    | .ram => fetchStorage s wa
    | .flash => fetchStorage s wa
    | .device _ _ => .stop (.refused .deviceFetch)
    | .absent => .stop (fetchBusError s)

/-- Memory with the four bytes of a word at a word address (20_memory.md R126). -/
def placeWord (m : List Host.Cell) (wa : Nat) (w : Word) : List Host.Cell := writeLanes m wa 0xF#4 w

/-- `s` with the instruction word `w` placed from outside where the next step fetches, the word clean and the
environment quiet (log entry 4). -/
def placeFetchWord (s : State) (w : Word) : State :=
  let wa := wordAddr (translate s.cp0.status.erl s.pc)
  { s with mem := placeWord s.mem wa w, codeWords := markCode s.codeWords wa .clean, schedule := [] }

end Sys2Proof.Machine
end

