-- ==== Sys2Proof/Machine/Run.lean ====
section
/-! DEFINITION. Sys2Proof/Machine/Run.lean: what one step of the core is (pending bus error, fetch, decode,
execute), interrupts, and the events of the environment (60_exceptions.md R492 to R500, 92_eei_decisions.md). -/

namespace Sys2Proof.Machine

open Sys2Proof

/-! ## One step of the core -/

/-- A decoded word executed, where it sees no pending hazard. A reserved word is RI, after the Coprocessor 0 check for a
COP0 word (30_encoding.md R196, R197, 44_coprocessor.md R446). -/
def runDecoded (d : Decoded) (s : State) : Out :=
  match d with
  | .instr i => if hazardSeen i s then .refused .executionHazard else exec i s
  | .reserved => takeException .ri s
  | .mustBeZero => .refused .mustBeZero
  | .reservedCop0 => if cop0Hazard s then .refused .executionHazard else withCop0 s (takeException .ri s)
  | .mustBeZeroCop0 => if cop0Hazard s then .refused .executionHazard else withCop0 s (.refused .mustBeZero)
  | .truncated => .refused .mustBeZero

/-- Fetch, decode and execute one instruction. -/
def runInstruction (s : State) : Out :=
  match fetch s with
  | .stop o => o
  | .word w => runDecoded (decode w) s

/-- What the core does once the scoreboard has made its step: a pending imprecise bus error that IEXI no longer inhibits
is taken, IBE first, and its pending bit cleared (10_state.md R73); else one instruction is run. The spec says only that
EPC does not identify the instruction at fault (60_exceptions.md R474). DESIGN CHOICE: EPC and BD, in Debug mode DEPC and
DBD, receive the restart address of the instruction that would have come next (log entry 40). -/
def coreStep (s : State) : Out :=
  if s.cp0.dbg.ibusep && !s.cp0.dbg.iexi then takeException .ibe s
  else if s.cp0.dbg.dbusep && !s.cp0.dbg.iexi then takeException .dbe s
  else runInstruction s

/-- One step of the core: the scoreboard makes its step first (70_reset_and_hazards.md R574). -/
def cpuStep (s : State) : Out := coreStep s.ticked

/-- In MIPS16e mode the core neither fetches nor takes an exception (45_mips16e.md R465, R466). -/
def mips32Only (s : State) (o : Out) : Out := if s.isaMode then .refused .mips16e else o

/-- With Debug.SST = 1 a step outside Debug mode would enter it, which the parameter `DebugEntry` refuses
(60_exceptions.md R529; log entry 18). -/
def singleStepDue (s : State) : Bool :=
  s.cp0.dbg.sst && !s.cp0.dbg.dm && decide (s.cfg.debugEntry = .refuse)

/-- What the core does next, where no refusal comes before it. A single step comes before NMI and interrupts
(60_exceptions.md R492). -/
def whenRunning (s : State) (o : Out) : Out :=
  mips32Only s (if singleStepDue s then .refused .debugModeEntry else o)

/-! ## Interrupts (60_exceptions.md R496, R500) -/

/-- An interrupt is takeable as an instruction that sees `c` in Coprocessor 0 finds it (R496). -/
def takeableUnder (r : IntReq) (c : Cp0) : Bool :=
  c.status.ie && !c.status.exl && !c.status.erl && !c.dbg.dm && decide (c.status.ipl.toNat < r.ripl.toNat)

/-- An interrupt is takeable (R496). -/
def State.interruptTakeable (s : State) : Bool := takeableUnder s.intReq s.cp0

/-- An interrupt may be taken: it is takeable under an old or a new value of what a DI, EI or MTC0 whose spacing is not
over changed (R500; 70_reset_and_hazards.md R571, R574). -/
def State.interruptPossible (s : State) : Bool := s.ticked.views.any (takeableUnder s.intReq)

/-- The interrupt is taken, which also ends a wait (R500, 44_coprocessor.md R439). -/
def takeInterrupt (s : State) : Out := takeException .int { s with waiting := false }.ticked

/-! ## The environment (log entry 11) -/

/-- `CountTick` (60_exceptions.md R520, R521). -/
def countTick (s : State) : State :=
  let c := s.cp0
  if c.cause.dc || (c.dbg.dm && !c.dbg.countdm) then s
  else
    { s with
      cp0 := { c with
        count := c.count + 1#32
        cause := { c.cause with ti := c.cause.ti || c.count + 1#32 == c.compare } } }

/-- A debug exception that the EJTAG hardware raises: none in Debug mode, none for the software breakpoint (that is
SDBBP), and a single step only with Debug.SST (60_exceptions.md R528; log entry 18). -/
def debugEvent (c : DebugCause) (s : State) : Out :=
  if s.cp0.dbg.dm || decide (c = .dbp) || (decide (c = .dss) && !s.cp0.dbg.sst) then .next s
  else mips32Only s (takeDebug c s)

/-- Another bus master writes byte lanes of a word: in RAM, and a fetch of that word is then outside the spec
(20_memory.md R149); a device register, as a store does (R150); Flash, outside the spec (R131). Where the map has nothing
the bus rejects the access (R135), and what the master is told is no state of the core. -/
def busWriteEvent (pa : Word) (w : LaneStore) (s : State) : Out :=
  let wa := wordAddr pa
  match storeTarget s.cfg wa with
  | .ram =>
    .next { s with mem := writeLanes s.mem wa w.enable w.data, codeWords := markCode s.codeWords wa .foreign }
  | .flash => .refused .flashStore
  | .device reg kind => .next (s.storeDevice reg kind w)
  | .absent => .next s

/-- One event of the environment. -/
def envStep (e : EnvEvent) (s : State) : Out :=
  match e with
  | .cpu => if s.waiting then .next s else whenRunning s (cpuStep s)
  | .wake => .next { s with waiting := false }
  | .tick => .next (countTick s)
  | .intReq r =>
    if r.eicss.toNat ≤ s.cfg.shadowSets.hss.toNat then .next { s with intReq := r } else .refused .shadowSetAboveHss
  | .interrupt => if s.interruptPossible then whenRunning s (takeInterrupt s) else .next s
  | .nmi => whenRunning s (.next (enterNmi s))
  | .reset => mips32Only s (if s.cfg.ejtagBoot then .refused .ejtagBoot else .next (enterReset s))
  | .debugException c => debugEvent c s
  | .busWrite pa enable w => busWriteEvent pa { enable := enable, data := w } s
  | .device reg v => .next { s with devRegs := devicePut s.devRegs reg v }
  | .tcb v => .next { s with cp0 := { s.cp0 with tcb := v, tcbLoaded := true } }

/-- One step with nothing scheduled: an interrupt that is takeable is taken at once, where its entry depends on no pending
write; else a wait is over and the core runs one instruction (log entry 11). -/
def quietStep (s : State) : Out :=
  whenRunning s <|
    if s.interruptTakeable && !entryHazard .int s.ticked then takeInterrupt s else cpuStep { s with waiting := false }

/-- One step: the next event of the schedule, or a quiet one. -/
def stepOnce (s : State) : Out :=
  match s.schedule with
  | [] => quietStep s
  | e :: es => envStep e { s with schedule := es }

end Sys2Proof.Machine
end

