-- ==== Sys2Proof/Machine/Step.lean ====
section
/-! DEFINITION. Sys2Proof/Machine/Step.lean: one step of the machine, and the state whose next step runs a given
instruction. -/

namespace Sys2Proof.Machine

open Sys2Proof

/-- One step of the machine (60_exceptions.md R492, R500; log entry 11). -/
def step (s : State) : Host.Outcome State Fault Refusal := stepOnce s

/-- `s` with an instruction of `nbits` bits, numbered as spec/opcode_table.json numbers them, placed where `step`
fetches (log entry 4). -/
def State.withFetchWord (s : State) (nbits w : Nat) : State := placeFetchWord s (BitVec.ofNat 32 (w % 2 ^ nbits))

end Sys2Proof.Machine
end

