-- ==== Sys2Proof/Safety.lean ====
section
/-! DEFINITION. Sys2Proof/Safety.lean: the terms the statements use: the invariant of the machine, and what an
instruction leaves unchanged. -/

namespace Sys2Proof.Machine

open Sys2Proof

/-! ## The invariant -/

/-- r0 of every register set holds 0 (10_state.md R21). -/
def zeroRegisters (s : State) : Bool :=
  [0#2, 1#2, 2#2, 3#2].all fun set => s.gprs[gprIndex set 0#5] == 0#32

/-- Every stored list is in its canonical form. -/
def canonicalStores (s : State) : Bool :=
  Memory.wf s.mem && sparseCanonical 0#32 s.devRegs && sparseCanonical CodeState.clean s.codeWords

/-- Every shadow set number in use exists (10_state.md R51). -/
def legalSets (s : State) : Bool :=
  let hss := s.cfg.shadowSets.hss
  decide (s.cp0.srs.ess ≤ hss) && decide (s.cp0.srs.pss ≤ hss) && decide (s.cp0.srs.css ≤ hss) &&
    decide (s.intReq.eicss ≤ hss)

/-- The fields with reserved values hold legal ones (10_state.md R49, R64, R84, R87). -/
def legalFields (c : Cp0) : Bool :=
  legalSpacing c.vs && legalCoherency c.ku && legalCoherency c.k0 &&
    (c.traceControl &&& ~~~traceControlMask == 0x00000010#32) && (c.traceBPC &&& ~~~traceBPCMask == 0#32)

/-- A pending branch stands one word before the delay slot, and a core that waits has none (42_jump_branch.md R340,
44_coprocessor.md R439). -/
def slotOk (s : State) : Bool :=
  match s.delaySlot with
  | none => true
  | some d => (d.branch + 4#32 == s.pc) && !s.waiting

/-- No counter of the scoreboard is above the largest spacing of Table 2-1 (70_reset_and_hazards.md R571). -/
def hazardsOk (l : List Hazard) : Bool := l.all fun h => decide (h.left ≤ 4)

/-- Where every entry into Debug mode is refused, Debug.DM is 0 (60_exceptions.md R529). -/
def debugModeOk (s : State) : Bool := decide (s.cfg.debugEntry = .enter) || !s.cp0.dbg.dm

/-- The invariant that every step keeps. `Config.userWindowOk`, which no step touches, is the constraint on `PhysMap`
(20_memory.md R134). -/
abbrev State.Inv (s : State) : Prop :=
  zeroRegisters s = true ∧ canonicalStores s = true ∧ legalSets s = true ∧ legalFields s.cp0 = true ∧
    slotOk s = true ∧ hazardsOk s.hazards = true ∧ debugModeOk s = true ∧ s.cfg.userWindowOk = true

/-! ## Frames -/

/-- `exec i s` answers a next state with a property. -/
def Completes (i : Instr) (s : State) (p : State → Prop) : Prop := ∃ t, exec i s = .next t ∧ p t

/-- The outcome `o` of an instruction or a step in `s` is that the exception `e` is taken; where the entry depends on a
write of Coprocessor 0 whose spacing is not over, it is refused (70_reset_and_hazards.md R574). -/
structure Takes (o : Out) (e : Exc) (s : State) : Prop where
  taken : entryHazard e s = false → o = .next (raise e s)
  pending : entryHazard e s = true → o = .refused .executionHazard

/-- Every general register of every set reads the same. -/
def SameRegs (s t : State) : Prop := ∀ set r, t.regOf set r = s.regOf set r

/-- Register `rd` of set `set` reads `v` (r0 reads 0 and discards writes), every other register of every set reads the
same (10_state.md R21). -/
def OnlyReg (set : SetNum) (rd : Reg) (v : Word) (s t : State) : Prop :=
  t.regOf set rd = (if rd = 0#5 then 0#32 else v) ∧
    ∀ set' r, ¬(set' = set ∧ r = rd) → t.regOf set' r = s.regOf set' r

/-- Everything that no plain instruction touches: LLbit, the waiting state, Coprocessor 0, memory (read byte by byte),
the peripheral registers, the interrupt request, the environment's schedule and the parameters. -/
structure SystemSame (s t : State) : Prop where
  llbit : t.llbit = s.llbit
  waiting : t.waiting = s.waiting
  cp0 : t.cp0 = s.cp0
  mem : ∀ a, readByte t.mem a = readByte s.mem a
  devRegs : t.devRegs = s.devRegs
  intReq : t.intReq = s.intReq
  schedule : t.schedule = s.schedule
  cfg : t.cfg = s.cfg

/-- Execution moves on as `State.advance` says: the program counter, the mode, the pending branch and the hazards. -/
structure MovesOn (s t : State) : Prop where
  pc : t.pc = s.advance.pc
  isaMode : t.isaMode = s.advance.isaMode
  delaySlot : t.delaySlot = none
  hazards : t.hazards = s.advance.hazards
  staleStatus : t.staleStatus = s.advance.staleStatus

/-- The accumulator and the free-value counter are unchanged. -/
def SameAcc (s t : State) : Prop := t.hi = s.hi ∧ t.lo = s.lo ∧ t.freeIdx = s.freeIdx

/-- A register instruction: `GPR[rd] <- v`, everything else unchanged, execution moves on. -/
structure WritesReg (rd : Reg) (v : Word) (s t : State) : Prop where
  regs : OnlyReg s.cp0.srs.css rd v s t
  acc : SameAcc s t
  system : SystemSame s t
  moves : MovesOn s t
  code : t.codeWords = s.advance.codeWords

/-- An instruction that writes HI and LO only. -/
structure WritesHiLo (hi lo : Word) (s t : State) : Prop where
  hi : t.hi = hi
  lo : t.lo = lo
  freeIdx : t.freeIdx = s.freeIdx
  regs : SameRegs s t
  system : SystemSame s t
  moves : MovesOn s t
  code : t.codeWords = s.advance.codeWords

/-- An instruction that changes nothing but that execution moves on. -/
structure NoEffect (s t : State) : Prop where
  regs : SameRegs s t
  acc : SameAcc s t
  system : SystemSame s t
  moves : MovesOn s t
  code : t.codeWords = s.advance.codeWords

/-! ## The classes of words (30_encoding.md R189 to R197, 44_coprocessor.md R446) -/

/-- The selectors of the word lead to an unassigned cell of the maps outside COP0 (30_encoding.md R189 to R193, R196). -/
def unassignedCell (w : Word) : Bool :=
  [0x18#6, 0x19#6, 0x1A#6, 0x1B#6, 0x1E#6, 0x27#6, 0x2C#6, 0x2D#6, 0x34#6, 0x37#6, 0x3B#6, 0x3C#6,
    0x3F#6].contains (opcodeOf w) ||
    (opcodeOf w == 0x00#6 && [0x05#6, 0x0E#6, 0x14#6, 0x15#6, 0x16#6, 0x17#6, 0x1C#6, 0x1D#6, 0x1E#6,
      0x1F#6, 0x28#6, 0x29#6, 0x2C#6, 0x2D#6, 0x2E#6, 0x2F#6, 0x35#6, 0x37#6, 0x38#6, 0x39#6, 0x3A#6, 0x3B#6,
      0x3C#6, 0x3D#6, 0x3E#6, 0x3F#6].contains (functOf w)) ||
    (opcodeOf w == 0x01#6 && [0x04#5, 0x05#5, 0x06#5, 0x07#5, 0x0D#5, 0x0F#5, 0x14#5, 0x15#5, 0x16#5, 0x17#5,
      0x18#5, 0x19#5, 0x1A#5, 0x1B#5, 0x1C#5, 0x1D#5, 0x1E#5].contains (rtOf w)) ||
    (opcodeOf w == 0x1C#6 && !([0x00#6, 0x01#6, 0x02#6, 0x04#6, 0x05#6, 0x20#6, 0x21#6, 0x3F#6].contains (functOf w))) ||
    (opcodeOf w == 0x1F#6 && !([0x00#6, 0x04#6, 0x20#6, 0x3B#6].contains (functOf w))) ||
    (opcodeOf w == 0x1F#6 && functOf w == 0x20#6 && !([0x02#5, 0x10#5, 0x18#5].contains (saOf w)))

/-- A COP0 word assigned to no instruction: an unassigned `rs` or `function`, or an MFMC0 word whose `rd` is not that of DI
and EI (30_encoding.md R194, 44_coprocessor.md R446). -/
def unassignedCop0 (w : Word) : Bool :=
  opcodeOf w == 0x10#6 &&
    ((coOf w == 0#1 && !([0x00#5, 0x04#5, 0x0A#5, 0x0B#5, 0x0E#5].contains (rsOf w))) ||
    (coOf w == 0#1 && rsOf w == 0x0B#5 && rdOf w != 0x0C#5) ||
    (coOf w == 1#1 && !([0x01#6, 0x02#6, 0x06#6, 0x08#6, 0x18#6, 0x1F#6, 0x20#6].contains (functOf w))))

/-- A word outside COP0 that differs from an instruction only in a field that the instruction requires to be zero, by
the encodings of the rules (30_encoding.md R197, R198). -/
def nonzeroField (w : Word) : Bool :=
  ([0x06#6, 0x07#6, 0x16#6, 0x17#6].contains (opcodeOf w) && rtOf w != 0#5) ||
    (opcodeOf w == 0x0F#6 && rsOf w != 0#5) ||
    (opcodeOf w == 0x00#6 &&
      (([0x00#6, 0x03#6].contains (functOf w) && rsOf w != 0#5) ||
      (functOf w == 0x02#6 && !([0#5, 1#5].contains (rsOf w))) ||
      (functOf w == 0x06#6 && !([0#5, 1#5].contains (saOf w))) ||
      ([0x04#6, 0x07#6, 0x0A#6, 0x0B#6, 0x20#6, 0x21#6, 0x22#6, 0x23#6, 0x24#6, 0x25#6, 0x26#6, 0x27#6,
        0x2A#6, 0x2B#6].contains (functOf w) && saOf w != 0#5) ||
      (functOf w == 0x08#6 && (rtOf w != 0#5 || rdOf w != 0#5 || !([0#5, 16#5].contains (saOf w)))) ||
      (functOf w == 0x09#6 && (rtOf w != 0#5 || !([0#5, 16#5].contains (saOf w)))) ||
      (functOf w == 0x0F#6 && (rsOf w != 0#5 || rtOf w != 0#5 || rdOf w != 0#5)) ||
      ([0x10#6, 0x12#6].contains (functOf w) && (rsOf w != 0#5 || rtOf w != 0#5 || saOf w != 0#5)) ||
      ([0x11#6, 0x13#6].contains (functOf w) && (rtOf w != 0#5 || rdOf w != 0#5 || saOf w != 0#5)) ||
      ([0x18#6, 0x19#6, 0x1A#6, 0x1B#6].contains (functOf w) && (rdOf w != 0#5 || saOf w != 0#5)))) ||
    (opcodeOf w == 0x1C#6 &&
      (([0x00#6, 0x01#6, 0x04#6, 0x05#6].contains (functOf w) && (rdOf w != 0#5 || saOf w != 0#5)) ||
      ([0x02#6, 0x20#6, 0x21#6].contains (functOf w) && saOf w != 0#5))) ||
    (opcodeOf w == 0x1F#6 &&
      ((functOf w == 0x20#6 && [0x02#5, 0x10#5, 0x18#5].contains (saOf w) && rsOf w != 0#5) ||
      (functOf w == 0x3B#6 && (rsOf w != 0#5 || saOf w != 0#5))))

/-- The same for a COP0 word (30_encoding.md R197, 44_coprocessor.md R431 to R440, R446). -/
def nonzeroCop0Field (w : Word) : Bool :=
  opcodeOf w == 0x10#6 &&
    ((coOf w == 0#1 && [0x00#5, 0x04#5].contains (rsOf w) && selZeroOf w != 0#8) ||
    (coOf w == 0#1 && [0x0A#5, 0x0E#5].contains (rsOf w) && (saOf w != 0#5 || functOf w != 0#6)) ||
    (coOf w == 0#1 && rsOf w == 0x0B#5 && rdOf w == 0x0C#5 && (saOf w != 0#5 || w.extractLsb' 0 5 != 0#5)) ||
    (coOf w == 1#1 && [0x01#6, 0x02#6, 0x06#6, 0x08#6, 0x18#6, 0x1F#6].contains (functOf w) && waitCodeOf w != 0#19))

/-! ## Data accesses -/

/-- The data access of `n` bytes at `va` passes every check and reaches physical address `pa`
(20_memory.md R139, R123). -/
structure AccessOk (n : Nat) (va : Word) (s : State) (pa : Word) : Prop where
  aligned : va.toNat % n = 0
  privileged : s.userMode = true → va.msb = false
  endian : s.userMode = true → s.cp0.status.re = false
  noDseg : s.cp0.dbg.dm = true → inDseg va = true → s.cp0.dbg.lsnm = true
  translated : pa = translate s.cp0.status.erl va

/-- The data access of `n` bytes at `va` has an address error: it is misaligned, or User mode names an address with bit
31 set (20_memory.md R122, R127). -/
def AddressError (n : Nat) (va : Word) (s : State) : Prop :=
  va.toNat % n ≠ 0 ∨ (s.userMode = true ∧ va.msb = true)

/-- A load finds storage at `pa`. -/
def LoadsStorage (s : State) (pa : Word) : Prop :=
  loadTarget s.cfg (wordAddr pa) = .ram ∨ loadTarget s.cfg (wordAddr pa) = .flash

/-- How the load or store `i` of `n` bytes at `va` fails: on an address error it takes `e`; where the bus rejects the
access (`target` is `absent`) it takes DBE or faults, as `BusErrorMode` says (20_memory.md R139, 60_exceptions.md
R478). -/
structure AccessFails (i : Instr) (n : Nat) (va : Word) (e : Exc) (target : Config → Nat → Target) (s : State) :
    Prop where
  addressError : AddressError n va s → Takes (exec i s) e s
  busError : ∀ pa, AccessOk n va s pa → target s.cfg (wordAddr pa) = .absent →
    (s.cfg.busErrorMode = .precise → Takes (exec i s) .dbe s) ∧
    (s.cfg.busErrorMode = .fault → exec i s = .fault (.dataBusError va))

/-- The load `i` of `n` bytes at `va` into `rt`: from storage, `rt` receives `value pa` and nothing else changes; it
fails as `AccessFails` says. -/
structure LoadRule (i : Instr) (n : Nat) (va : Word) (rt : Reg) (value : Nat → Word) (s : State) : Prop where
  loads : ∀ pa, AccessOk n va s pa → LoadsStorage s pa → Completes i s (WritesReg rt (value pa.toNat) s)
  fails : AccessFails i n va (.adel va) loadTarget s

/-- What a store to memory leaves unchanged, but for memory and the marks on stored words. -/
structure StoreFrame (s t : State) : Prop where
  waiting : t.waiting = s.waiting
  cp0 : t.cp0 = s.cp0
  hi : t.hi = s.hi
  lo : t.lo = s.lo
  devRegs : t.devRegs = s.devRegs
  intReq : t.intReq = s.intReq
  schedule : t.schedule = s.schedule
  cfg : t.cfg = s.cfg
  moves : MovesOn s t

/-- The bytes `v 0` to `v (n - 1)` stand at `pa` on, and every other byte of memory reads as before. -/
structure BytesStored (pa n : Nat) (v : Nat → Byte) (s t : State) : Prop where
  stored : ∀ k, k < n → readByte t.mem (pa + k) = v k
  others : ∀ a, ¬(pa ≤ a ∧ a < pa + n) → readByte t.mem a = readByte s.mem a

/-- The store `i` of an access of `n` bytes at `va`: to RAM, the `count pa` bytes from `start pa` on receive `v`, and
nothing else changes; it fails as `AccessFails` says. -/
structure StoreRule (i : Instr) (n : Nat) (va : Word) (start count : Word → Nat) (v : Nat → Byte) (s : State) :
    Prop where
  stores : ∀ pa, AccessOk n va s pa → storeTarget s.cfg (wordAddr pa) = .ram → Completes i s fun t =>
    BytesStored (start pa) (count pa) v s t ∧ SameRegs s t ∧ t.llbit = s.llbit ∧ t.freeIdx = s.freeIdx ∧ StoreFrame s t
  fails : AccessFails i n va (.ades va) storeTarget s

/-- What a control transfer leaves unchanged, but for the registers it links in and where execution goes. -/
structure TransferFrame (s t : State) : Prop where
  acc : SameAcc s t
  system : SystemSame s t
  hazards : t.hazards = s.hazards
  staleStatus : t.staleStatus = s.staleStatus
  code : t.codeWords = s.codeWords

/-- A branch or jump at `s.pc` (42_jump_branch.md R340): its delay slot comes next, and when the instruction there is
complete, execution goes on at `target` in mode `isa`; with `barrier`, every hazard is cleared first (R350). -/
structure SlotThen (target : Word) (isa barrier : Bool) (s t : State) : Prop where
  pc : t.pc = s.pc + 4#32
  isaMode : t.isaMode = s.isaMode
  slot : t.delaySlot = some { branch := s.pc, target := target, isa := isa, barrier := barrier }
  nextPc : t.advance.pc = target
  nextIsa : t.advance.isaMode = isa
  nextSlot : t.advance.delaySlot = none
  cleared : barrier = true → t.advance.hazards = [] ∧ t.advance.staleStatus = [] ∧
    ∀ a, codeStateAt t.advance.codeWords a ≠ .synced

/-- Execution goes on at `target`, with no delay slot. -/
structure GoesTo (target : Word) (s t : State) : Prop where
  pc : t.pc = target
  isaMode : t.isaMode = s.isaMode
  slot : t.delaySlot = none

/-- What a write of Coprocessor 0 leaves unchanged, but for Coprocessor 0, the general registers and the hazards the
write creates. -/
structure Cp0Frame (s t : State) : Prop where
  acc : SameAcc s t
  llbit : t.llbit = s.llbit
  waiting : t.waiting = s.waiting
  mem : ∀ a, readByte t.mem a = readByte s.mem a
  devRegs : t.devRegs = s.devRegs
  intReq : t.intReq = s.intReq
  schedule : t.schedule = s.schedule
  cfg : t.cfg = s.cfg
  pc : t.pc = s.advance.pc
  isaMode : t.isaMode = s.advance.isaMode
  delaySlot : t.delaySlot = none
  code : t.codeWords = s.advance.codeWords

/-- What a return from an exception or from Debug mode, an NMI and a reset leave unchanged: the general registers of
every set, HI, LO, memory, the peripheral registers and the inputs. -/
structure KeepsData (s t : State) : Prop where
  regs : SameRegs s t
  hi : t.hi = s.hi
  lo : t.lo = s.lo
  mem : ∀ a, readByte t.mem a = readByte s.mem a
  devRegs : t.devRegs = s.devRegs
  intReq : t.intReq = s.intReq
  schedule : t.schedule = s.schedule
  cfg : t.cfg = s.cfg

/-- What an exception entry leaves unchanged (60_exceptions.md R480, "Not changed"). -/
structure EntryFrame (s t : State) : Prop where
  regs : SameRegs s t
  hi : t.hi = s.hi
  lo : t.lo = s.lo
  llbit : t.llbit = s.llbit
  waiting : t.waiting = s.waiting
  mem : ∀ a, readByte t.mem a = readByte s.mem a
  devRegs : t.devRegs = s.devRegs
  intReq : t.intReq = s.intReq
  schedule : t.schedule = s.schedule
  cfg : t.cfg = s.cfg
  code : t.codeWords = s.codeWords

/-! ## Fetching -/

/-- The next step of the core may fetch at the program counter, and finds the bytes `b0` to `b3` there
(20_memory.md R126, R140, R149; 10_state.md R73). -/
structure FetchReady (s : State) (b0 b1 b2 b3 : Byte) : Prop where
  noFetchError : s.cp0.dbg.ibusep = true → s.cp0.dbg.iexi = true
  noDataError : s.cp0.dbg.dbusep = true → s.cp0.dbg.iexi = true
  mips32 : s.isaMode = false
  noSingleStep : singleStepDue s = false
  aligned : s.pc.toNat % 4 = 0
  noHazard : fetchHazard s = false
  privileged : s.userMode = true → s.pc.msb = false
  noDseg : s.cp0.dbg.dm = true → inDseg s.pc = false
  storage : fetchTarget s.cfg (wordAddr (translate s.cp0.status.erl s.pc)) = .ram ∨
    fetchTarget s.cfg (wordAddr (translate s.cp0.status.erl s.pc)) = .flash
  coherent : s.cfg.fetchCoherence = .always ∨
    codeStateAt s.codeWords (wordAddr (translate s.cp0.status.erl s.pc)) = .clean
  byte0 : b0 = readByte s.mem (translate s.cp0.status.erl s.pc).toNat
  byte1 : b1 = readByte s.mem ((translate s.cp0.status.erl s.pc).toNat + 1)
  byte2 : b2 = readByte s.mem ((translate s.cp0.status.erl s.pc).toNat + 2)
  byte3 : b3 = readByte s.mem ((translate s.cp0.status.erl s.pc).toNat + 3)

end Sys2Proof.Machine
end

