-- ==== Sys2Proof/Certificates/Slice0/Obligations.lean ====
section
/-! DEFINITION. Sys2Proof/Certificates/Slice0/Obligations.lean: the statements for the provers, listed in
OBLIGATIONS.json. -/

open Sys2Proof Sys2Proof.Machine

/-- For every well-formed instruction, with every operand at every value its encoding admits, decoding its encoded
word gives the instruction, and so does decoding the four bytes of that word in memory order. (30_encoding.md
section 1, 30_encoding.md section 3) -/
def Obligations.DecodeOfEncode : Prop :=
  ∀ i : Instr, i.wellFormed = true →
    decode (encode i) = .instr i ∧ decodeBytes (bytesOfWord (encode i)) = .instr i

/-- Every word that decodes to an instruction is the encoding of that instruction: the decoder drops no bit, and no
two words decode to one instruction. (30_encoding.md section 3) -/
def Obligations.EncodeOfDecode : Prop :=
  ∀ (w : Word) (i : Instr), decode w = .instr i → encode i = w

/-- One example word of the spec for each family decodes to the instruction it stands for. (40_load_store.md section
2, 40_load_store.md section 3, 41_computational.md section 2, 41_computational.md section 4, 42_jump_branch.md
section 2, 42_jump_branch.md section 3, 43_miscellaneous.md section 2, 44_coprocessor.md section 1,
44_coprocessor.md section 3, 44_coprocessor.md section 5) -/
def Obligations.ExampleWordsDecode : Prop :=
  decode 0x8FA80004#32 = .instr (.lw 29#5 8#5 4#16) ∧ decode 0xAFBF0014#32 = .instr (.sw 29#5 31#5 20#16) ∧
    decode 0x00221820#32 = .instr (.add 1#5 2#5 3#5) ∧ decode 0x00011100#32 = .instr (.sll 1#5 2#5 4#5) ∧
    decode 0x0320F809#32 = .instr (.jalr 25#5 31#5) ∧ decode 0x1422FFFE#32 = .instr (.bne 1#5 2#5 0xFFFE#16) ∧
    decode 0x004001F4#32 = .instr (.teq 2#5 0#5 7#10) ∧ decode 0x40896001#32 = .instr (.mtc0 9#5 12#5 1#3) ∧
    decode 0x42000018#32 = .instr .eret ∧ decode 0x46020800#32 = .instr (.cop1 0x2020800#26)

/-- Every word decodes to an instruction or is in one of four classes, told from its fields alone: a word whose
selectors lead to an unassigned cell of the maps outside COP0 raises RI; a word outside COP0 that differs from
an instruction only in a must-be-zero field is refused; a COP0 word assigned to no instruction raises RI where
Coprocessor 0 is usable, and a COP0 word that differs from an instruction only in a must-be-zero field is
refused there, and both raise CpU with unit 0 where it is unusable (each where whether Coprocessor 0 is usable
depends on no pending write). No word of the four classes decodes to an instruction. That an MFMC0 word whose rd
is not that of DI and EI is assigned to no instruction is the reading of log entry 23. An exception whose entry
depends on a Coprocessor 0 write whose spacing is not over is refused instead (R574). (30_encoding.md section 3,
30_encoding.md section 4, 44_coprocessor.md section 4, log entry 23) -/
def Obligations.UnassignedWordsRaiseReservedInstruction : Prop :=
  (∀ w : Word, unassignedCell w = true → decode w = .reserved ∧ ∀ s, Takes (runDecoded (decode w) s) .ri s) ∧
    (∀ w : Word, nonzeroField w = true → decode w = .mustBeZero ∧ ∀ s, runDecoded (decode w) s = .refused .mustBeZero) ∧
    (∀ w : Word, unassignedCop0 w = true → decode w = .reservedCop0 ∧ ∀ s, cop0Hazard s = false →
      (s.cop0Usable = true → Takes (runDecoded (decode w) s) .ri s) ∧
      (s.cop0Usable = false → Takes (runDecoded (decode w) s) (.cpu 0#2) s)) ∧
    (∀ w : Word, nonzeroCop0Field w = true → decode w = .mustBeZeroCop0 ∧ ∀ s, cop0Hazard s = false →
      (s.cop0Usable = true → runDecoded (decode w) s = .refused .mustBeZero) ∧
      (s.cop0Usable = false → Takes (runDecoded (decode w) s) (.cpu 0#2) s)) ∧
    ∀ w : Word, (∃ i, decode w = .instr i) ∨ unassignedCell w = true ∨ nonzeroField w = true ∨ unassignedCop0 w = true ∨
      nonzeroCop0Field w = true

/-- From every state in which r0 of every register set is zero, memory, the peripheral registers and the marks on
stored words are in canonical form, every shadow set number in use exists, every field with reserved values
holds a legal one, a pending branch stands one word before the delay slot with the core not waiting, no hazard
counter is above 4, Debug.DM is clear unless DebugEntry admits Debug mode, and the map holds no peripheral
register where useg reaches, each step that answers a next state gives such a state. (10_state.md section 1,
10_state.md section 6, 10_state.md section 9, 20_memory.md section 3, 42_jump_branch.md section 1,
60_exceptions.md section 7, 70_reset_and_hazards.md section 3) -/
def Obligations.StepKeepsTheInvariant : Prop :=
  ∀ s t : State, s.Inv → step s = .next t → t.Inv

/-- The state after reset meets the invariant that every step keeps. (10_state.md section 1, 70_reset_and_hazards.md
section 1) -/
def Obligations.ResetMeetsTheInvariant : Prop :=
  State.reset.Inv

/-- Where the bytes at the program counter can be fetched (in MIPS32 mode, with no bus error pending and no single
step due) and decode to an instruction that sees no hazard once the hazard counters have made their step, a step
with nothing scheduled and no interrupt takeable is that instruction executed in that state, a wait ended; so is
a step whose next event lets the core run, while the core does not wait. (The schedule is the model's, log entry
11.) (20_memory.md section 5, 30_encoding.md section 3, 60_exceptions.md section 4) -/
def Obligations.StepRunsTheDecodedInstruction : Prop :=
  ∀ (s : State) (b0 b1 b2 b3 : Byte) (i : Instr), FetchReady s b0 b1 b2 b3 →
    decodeBytes [b0, b1, b2, b3] = .instr i → hazardSeen i s.ticked = false →
    (s.schedule = [] → s.interruptTakeable = false → step s = exec i { s with waiting := false }.ticked) ∧
    ∀ es, s.schedule = .cpu :: es → s.waiting = false → step s = exec i { s with schedule := es }.ticked

/-- In User mode with Status.CU0 clear, an instruction that answers a next state leaves every Coprocessor 0 register
unchanged, or takes an exception, or is the software breakpoint entering Debug mode (which it does only where
DebugEntry says so, log entry 18). (44_coprocessor.md section 1, 60_exceptions.md section 5) -/
def Obligations.UserModeKeepsCoprocessor0 : Prop :=
  ∀ (i : Instr) (s t : State), s.userMode = true → s.cp0.status.cu0 = false → exec i s = .next t →
    t.cp0 = s.cp0 ∨ (∃ e, t = raise e s) ∨ ((∃ code, i = .sdbbp code) ∧ s.cfg.debugEntry = .enter ∧ t = enterDebug .dbp s)

/-- After power-up and after every reset event (without EJTAGBOOT) that strikes in MIPS32 mode, the program counter
is 0xBFC00000, in MIPS32 mode and Kernel mode; after an NMI in MIPS32 mode it is 0xBFC00000 too, in MIPS32 mode
and not in User mode; that address translates to physical 0x1FC00000 (R553, R507). The model's own: that an NMI
in Debug mode leaves it in Debug mode (log entry 32), that none is taken where a single step is due, which is
refused (log entry 18), and that the map of the reset state, which is the platform's, has Flash there (log entry
3). (70_reset_and_hazards.md R553, 60_exceptions.md R507, log entry 3, log entry 18, log entry 32) -/
def Obligations.ResetFetchAddress : Prop :=
  State.reset.pc = 0xBFC00000#32 ∧ State.reset.isaMode = false ∧ State.reset.userMode = false ∧
    State.reset.cp0.dbg.dm = false ∧
    (∀ erl, translate erl 0xBFC00000#32 = 0x1FC00000#32) ∧
    fetchTarget State.reset.cfg 0x1FC00000 = .flash ∧
    ∀ (s : State) (es : List EnvEvent),
      (s.schedule = .reset :: es → s.isaMode = false → s.cfg.ejtagBoot = false → ∃ t, step s = .next t ∧
        t.pc = 0xBFC00000#32 ∧ t.isaMode = false ∧ t.userMode = false ∧ t.cp0.dbg.dm = false) ∧
      (s.schedule = .nmi :: es → s.isaMode = false → singleStepDue s = false → ∃ t, step s = .next t ∧
        t.pc = 0xBFC00000#32 ∧ t.isaMode = false ∧ t.userMode = false ∧ t.cp0.dbg.dm = s.cp0.dbg.dm)

/-- After reset the Coprocessor 0 registers with a reset value read it, the fields of Status, Cause and Debug with a
reset value hold it, and r0 of every set reads zero. (10_state.md section 13, 70_reset_and_hazards.md section 1) -/
def Obligations.ResetRegisterValues : Prop :=
  (∀ set, State.reset.regOf set 0#5 = 0#32) ∧
    State.reset.cp0Word .hwrEna = 0#32 ∧ State.reset.cp0Word .intCtl = 0#32 ∧ State.reset.cp0Word .srsMap = 0#32 ∧
    State.reset.cp0Word .ebase = 0x80000000#32 ∧ State.reset.cp0Word .config = 0xA4010582#32 ∧
    State.reset.cp0Word .config1 = 0x80000006#32 ∧ State.reset.cp0Word .config2 = 0x80000000#32 ∧
    State.reset.cp0Word .config3 = 0x00000060#32 ∧ State.reset.cp0Word .traceControl = 0x00000010#32 ∧
    State.reset.cp0Word .userTraceData = 0#32 ∧ State.reset.cp0Word .traceBPC = 0#32 ∧
    State.reset.cp0Word .srsCtl &&& 0xFC03FFFF#32 = 0x04000000#32 ∧
    State.reset.cp0Word .status &&& 0x087C0004#32 = 0x00500004#32 ∧
    State.reset.cp0Word .cause &&& 0x08000000#32 = 0#32 ∧
    State.reset.cp0Word .debugReg &&& 0xFFFFFF80#32 = 0x02010000#32

/-- A reset that strikes a running core in MIPS32 mode (without EJTAGBOOT) forces BEV, SR and ERL to 1 and NMI, RP,
Cause.DC and every other register and field with a reset value (HWREna, IntCtl, SRSCtl, SRSMap, Ebase, Config,
Debug[31:7], TraceControl, UserTraceData, TraceBPC) to it, saves the address at which execution would have
resumed in ErrorEPC, discards a pending branch, ends a wait, and keeps the general registers, HI, LO, LLbit,
memory, BadVAddr, Count, Compare, EPC, DEPC, DeSAVE and every field without a reset value (Debug[6:0],
TraceControl2[4:0] and Debug2 among them); with EJTAGBOOT, and in MIPS16e mode, it is refused. That the
peripheral registers are kept is log entry 32. (70_reset_and_hazards.md section 1, 10_state.md section 13,
45_mips16e.md R466, log entry 32) -/
def Obligations.ResetEventForcesAndKeeps : Prop :=
  ∀ (s : State) (es : List EnvEvent), s.schedule = .reset :: es →
    (s.isaMode = true → step s = .refused .mips16e) ∧
    (s.isaMode = false → s.cfg.ejtagBoot = true → step s = .refused .ejtagBoot) ∧
    (s.isaMode = false → s.cfg.ejtagBoot = false → ∃ t, step s = .next t ∧
    KeepsData { s with schedule := es } t ∧ t.llbit = s.llbit ∧ t.waiting = false ∧ t.delaySlot = none ∧
    t.pc = 0xBFC00000#32 ∧ t.isaMode = false ∧
    t.cp0.status = { s.cp0.status with bev := true, sr := true, erl := true, nmi := false, rp := false } ∧
    t.cp0.cause = { s.cp0.cause with dc := false } ∧
    (∀ d, s.delaySlot = some d → t.cp0.errorEpc = d.branch.extractLsb' 1 31 ++ BitVec.ofBool s.isaMode) ∧
    (s.delaySlot = none → t.cp0.errorEpc = s.pc.extractLsb' 1 31 ++ BitVec.ofBool s.isaMode) ∧
    t.cp0.hwrEna = 0#4 ∧ t.cp0.vs = 0#5 ∧ t.cp0.srs = { ess := 0#2, pss := 0#2, css := 0#2 } ∧ t.cp0.srsMap = 0#32 ∧
    t.cp0.ebase = 0#18 ∧ t.cp0.ku = 2#3 ∧ t.cp0.k0 = 2#3 ∧
    t.cp0.dbg = {
      dbd := false, dm := false, lsnm := false, doze := false, halt := false, countdm := true
      ibusep := false, dbusep := false, iexi := false, dexcCode := 0#5, sst := false
      causes := s.cp0.dbg.causes } ∧
    t.cp0.traceControl = 0x00000010#32 ∧ t.cp0.userTraceData = 0#32 ∧ t.cp0.traceBPC = 0#32 ∧
    t.cp0.tcb = s.cp0.tcb ∧ t.cp0.tcbLoaded = s.cp0.tcbLoaded ∧ t.cp0.debug2 = s.cp0.debug2 ∧
    t.cp0.badVAddr = s.cp0.badVAddr ∧ t.cp0.count = s.cp0.count ∧ t.cp0.compare = s.cp0.compare ∧
    t.cp0.epc = s.cp0.epc ∧ t.cp0.depc = s.cp0.depc ∧ t.cp0.deSave = s.cp0.deSave)

/-- In MIPS32 mode with no single step due, whatever Status holds, an NMI saves the restart address (the branch
address in a delay slot) in ErrorEPC, sets ERL, NMI and BEV, clears SR, continues at 0xBFC00000 with no pending
branch, ends a wait, and leaves EPC, Cause, SRSCtl and all other state unchanged. In Debug mode too, where it
leaves DM set: that clause is the model's own, log entry 32. In MIPS16e mode it is refused; where a single step
is due, which has priority and is refused, so is the NMI (log entry 18). (60_exceptions.md section 4,
60_exceptions.md section 3, 45_mips16e.md R466, log entry 18, log entry 32) -/
def Obligations.NonMaskableInterruptEntry : Prop :=
  ∀ (s : State) (es : List EnvEvent), s.schedule = .nmi :: es →
    (s.isaMode = true → step s = .refused .mips16e) ∧
    (s.isaMode = false → singleStepDue s = true → step s = .refused .debugModeEntry) ∧
    (s.isaMode = false → singleStepDue s = false → ∃ t, step s = .next t ∧
    t.cp0 = { s.cp0 with
      errorEpc := (match s.delaySlot with
        | none => s.pc
        | some d => d.branch).extractLsb' 1 31 ++ 0#1
      status := { s.cp0.status with erl := true, nmi := true, bev := true, sr := false } } ∧
    t.pc = 0xBFC00000#32 ∧ t.isaMode = false ∧ t.delaySlot = none ∧ t.waiting = false ∧
    t.llbit = s.llbit ∧ t.freeIdx = s.freeIdx ∧ t.codeWords = s.codeWords ∧ KeepsData { s with schedule := es } t)

/-- The event CountTick, where Cause.DC is clear and not (Debug mode with COUNTDM clear), adds 1 to Count modulo
2^32 and sets Cause.TI where Count then equals Compare; elsewhere it changes nothing; no other state changes.
(R520) -/
def Obligations.CountTickAdvancesTheTimer : Prop :=
  ∀ (s : State) (es : List EnvEvent), s.schedule = .tick :: es → ∃ t, step s = .next t ∧
    ((s.cp0.cause.dc = true ∨ (s.cp0.dbg.dm = true ∧ s.cp0.dbg.countdm = false)) → t = { s with schedule := es }) ∧
    (s.cp0.cause.dc = false → ¬(s.cp0.dbg.dm = true ∧ s.cp0.dbg.countdm = false) →
      t.cp0.count.toNat = (s.cp0.count.toNat + 1) % 2 ^ 32 ∧
      (t.cp0.count = s.cp0.compare → t.cp0.cause.ti = true) ∧
      (t.cp0.count ≠ s.cp0.compare → t.cp0.cause.ti = s.cp0.cause.ti) ∧
      t = { s with
        schedule := es
        cp0 := { s.cp0 with count := t.cp0.count, cause := { s.cp0.cause with ti := t.cp0.cause.ti } } })

/-- Outside Debug mode, raising an exception writes EPC and Cause.BD (with the branch address in a delay slot) and
SRSCtl only where EXL was 0 (SRSCtl only where also BEV = ERL = 0), writes EXCCODE, CE for CpU and BadVAddr for
an address error, clears the pending bit in Debug of the bus error that is taken (R73), sets EXL, clears the ISA
mode and the pending branch, continues at the vector, and changes nothing else. (R480, 10_state.md section 10) -/
def Obligations.ExceptionEntry : Prop :=
  ∀ (e : Exc) (s : State), s.cp0.dbg.dm = false →
    (∃ bd ce, (raise e s).cp0 = { s.cp0 with
      epc := (raise e s).cp0.epc
      badVAddr := (raise e s).cp0.badVAddr
      srs := (raise e s).cp0.srs
      status := { s.cp0.status with exl := true }
      cause := { s.cp0.cause with bd := bd, ce := ce, excCode := e.code }
      dbg := { s.cp0.dbg with
        ibusep := s.cp0.dbg.ibusep && decide (e ≠ .ibe)
        dbusep := s.cp0.dbg.dbusep && decide (e ≠ .dbe) } } ∧
      (∀ unit, e = .cpu unit → ce = unit) ∧
      (s.cp0.status.exl = false → bd = s.delaySlot.isSome) ∧ (s.cp0.status.exl = true → bd = s.cp0.cause.bd)) ∧
    (s.cp0.status.exl = false →
      (s.delaySlot = none → (raise e s).cp0.epc = s.pc.extractLsb' 1 31 ++ BitVec.ofBool s.isaMode) ∧
      (∀ d, s.delaySlot = some d → (raise e s).cp0.epc = d.branch.extractLsb' 1 31 ++ BitVec.ofBool s.isaMode) ∧
      (s.cp0.status.bev = false → s.cp0.status.erl = false →
        (raise e s).cp0.srs.pss = s.cp0.srs.css ∧ (raise e s).cp0.srs.ess = s.cp0.srs.ess ∧
        (raise e s).cp0.srs.css =
          if e = .int ∧ s.cp0.cause.iv = true ∧ s.cp0.vs ≠ 0#5 then s.intReq.eicss else s.cp0.srs.ess)) ∧
    (s.cp0.status.exl = true ∨ s.cp0.status.bev = true ∨ s.cp0.status.erl = true →
      (raise e s).cp0.srs = s.cp0.srs) ∧
    (s.cp0.status.exl = true → (raise e s).cp0.epc = s.cp0.epc) ∧
    (∀ va, e = .adel va ∨ e = .ades va → (raise e s).cp0.badVAddr = va) ∧
    ((∀ va, e ≠ .adel va ∧ e ≠ .ades va) → (raise e s).cp0.badVAddr = s.cp0.badVAddr) ∧
    (raise e s).pc =
      (if s.cp0.status.bev = true then 0xBFC00200#32 else s.cp0Word .ebase &&& 0xFFFFF000#32) +
      (if s.cp0.status.exl = false ∧ e = .int ∧ s.cp0.cause.iv = true then
        (if s.cp0.status.bev = false then
          0x200#32 + BitVec.ofNat 32 (s.intReq.vector.toNat * (s.cp0.vs.toNat * 32)) else 0x200#32)
      else 0x180#32) ∧
    (raise e s).isaMode = false ∧ (raise e s).delaySlot = none ∧ EntryFrame s (raise e s)

/-- Outside Debug mode with EXL clear, an interrupt with Cause.IV set goes, with BEV clear, to Ebase + 0x200 +
vector * VS * 32, with BEV set to offset 0x200; with IV clear, and for every other exception, to offset 0x180;
for every legal VS and every vector number the offset is at most 0x8000. (60_exceptions.md section 2) -/
def Obligations.InterruptVectors : Prop :=
  ∀ (e : Exc) (s : State), s.cp0.dbg.dm = false → s.cp0.status.exl = false →
    (e = .int → s.cp0.cause.iv = true → s.cp0.status.bev = false → legalSpacing s.cp0.vs = true →
      0x200 + s.intReq.vector.toNat * (s.cp0.vs.toNat * 32) ≤ 0x8000 ∧
      (raise e s).pc.toNat = 0x80000000 + s.cp0.ebase.toNat * 4096 + 0x200 + s.intReq.vector.toNat * (s.cp0.vs.toNat * 32)) ∧
    (e = .int → s.cp0.cause.iv = true → s.cp0.status.bev = true → (raise e s).pc = 0xBFC00400#32) ∧
    (e ≠ .int ∨ s.cp0.cause.iv = false →
      (s.cp0.status.bev = true → (raise e s).pc = 0xBFC00380#32) ∧
      (s.cp0.status.bev = false → (raise e s).pc.toNat = 0x80000000 + s.cp0.ebase.toNat * 4096 + 0x180))

/-- An interrupt is takeable exactly where IE is set, EXL, ERL and DM are clear and the requested level is above
Status.IPL, the levels compared as unsigned numbers. The event interrupt is the model's (log entry 11): in
MIPS32 mode with no single step due, where an interrupt is takeable, or was under an old value of Status whose
spacing is not over (log entry 14), the event takes Int, also out of a wait; where it is not takeable and no
such write of Status is pending, the event leaves the state as it was; in MIPS16e mode a takeable interrupt is
refused. An exception whose entry depends on a Coprocessor 0 write whose spacing is not over is refused instead
(R574). (60_exceptions.md section 4, 70_reset_and_hazards.md section 3, 45_mips16e.md R466, log entry 11, log
entry 14) -/
def Obligations.InterruptTakenExactlyWhenEnabled : Prop :=
  ∀ s : State,
    (s.interruptTakeable = true ↔ s.cp0.status.ie = true ∧ s.cp0.status.exl = false ∧ s.cp0.status.erl = false ∧
      s.cp0.dbg.dm = false ∧ s.cp0.status.ipl.toNat < s.intReq.ripl.toNat) ∧
    (s.interruptTakeable = true → s.interruptPossible = true) ∧
    ∀ es, s.schedule = .interrupt :: es →
      (s.isaMode = true → s.interruptTakeable = true → step s = .refused .mips16e) ∧
      (s.isaMode = false → singleStepDue s = false → s.interruptPossible = true →
        Takes (step s) .int { s with schedule := es, waiting := false }.ticked) ∧
      (s.interruptTakeable = false → (∀ h ∈ s.hazards, h.row ≠ .ie ∧ h.row ≠ .other) →
        step s = .next { s with schedule := es })

/-- With nothing scheduled, a step in MIPS16e mode is refused. In MIPS32 mode, with no interrupt takeable, no single
step due and no bus error pending, a step at a misaligned program counter takes AdEL at it; with no instruction
hazard, in User mode at an address with bit 31 set it takes AdEL at it; and where the bus rejects the address it
takes IBE or faults, as BusErrorMode says. An exception whose entry depends on a Coprocessor 0 write whose
spacing is not over is refused instead (R574). (20_memory.md section 5, 45_mips16e.md R465, 60_exceptions.md
section 1) -/
def Obligations.FailingFetches : Prop :=
  ∀ s : State, s.schedule = [] →
    (s.isaMode = true → step s = .refused .mips16e) ∧
    (s.isaMode = false → singleStepDue s = false → s.interruptTakeable = false →
      s.cp0.dbg.ibusep = false → s.cp0.dbg.dbusep = false →
      ∀ u, u = { s with waiting := false }.ticked →
      (s.pc.toNat % 4 ≠ 0 → Takes (step s) (.adel s.pc) u) ∧
      (s.pc.toNat % 4 = 0 → fetchHazard s = false →
        (s.userMode = true → s.pc.msb = true → Takes (step s) (.adel s.pc) u) ∧
        ((s.userMode = true → s.pc.msb = false) → s.cp0.dbg.dm = false →
          fetchTarget s.cfg (wordAddr (translate s.cp0.status.erl s.pc)) = .absent →
          (s.cfg.busErrorMode = .precise → Takes (step s) .ibe u) ∧
          (s.cfg.busErrorMode = .fault → step s = .fault (.fetchBusError s.pc)))))

/-- SDBBP, whatever its code and in every mode, is refused while DebugEntry is refuse, as the spec rules. Where
DebugEntry is enter (the model's own parameter, log entry 18), it saves the restart address in DEPC with
Debug.DBD telling a delay slot, sets DM and IEXI and of the cause bits DBP alone, continues in MIPS32 mode with
no pending branch, and changes no other register; HALT, DEXCCODE and Debug2 then hold some value.
(43_miscellaneous.md section 2, 60_exceptions.md section 7, log entry 18) -/
def Obligations.SoftwareBreakpointEntersDebugMode : Prop :=
  ∀ (code : BitVec 20) (s : State),
    decode (0b011100#6 ++ code ++ 0b111111#6) = .instr (.sdbbp code) ∧
    (s.cfg.debugEntry = .refuse → exec (.sdbbp code) s = .refused .debugModeEntry) ∧
    (s.cfg.debugEntry = .enter → ∃ t, exec (.sdbbp code) s = .next t ∧
    t.cp0 = { s.cp0 with depc := t.cp0.depc, dbg := t.cp0.dbg, debug2 := t.cp0.debug2 } ∧
    (s.delaySlot = none → t.cp0.depc = s.pc.extractLsb' 1 31 ++ BitVec.ofBool s.isaMode) ∧
    (∀ d, s.delaySlot = some d → t.cp0.depc = d.branch.extractLsb' 1 31 ++ BitVec.ofBool s.isaMode) ∧
    t.cp0.dbg.dbd = s.delaySlot.isSome ∧ t.cp0.dbg.dm = true ∧ t.cp0.dbg.iexi = true ∧
    t.cp0.dbg.causes.toBits = 0b0000010#7 ∧ t.cp0.dbg.lsnm = s.cp0.dbg.lsnm ∧ t.cp0.dbg.countdm = s.cp0.dbg.countdm ∧
    t.cp0.dbg.ibusep = s.cp0.dbg.ibusep ∧ t.cp0.dbg.dbusep = s.cp0.dbg.dbusep ∧ t.cp0.dbg.sst = s.cp0.dbg.sst ∧
    t.cp0.dbg.doze = s.waiting ∧
    t.isaMode = false ∧ t.delaySlot = none ∧ t.waiting = false ∧ t.llbit = s.llbit ∧ KeepsData s t)

/-- ERET and DERET, where Coprocessor 0 is usable and outside a delay slot: ERET with ERL set clears ERL and
continues at ErrorEPC, else clears EXL, copies PSS into CSS where BEV is clear and continues at EPC, and clears
LLbit; DERET in Debug mode clears DM and IEXI and continues at DEPC, and outside Debug mode raises RI; bit 0 of
the saved address becomes the ISA mode; hazards are cleared; nothing else changes. In a delay slot they are
refused (that this comes before the RI of DERET outside Debug mode is the reading of log entry 25); where
Coprocessor 0 is unusable they raise CpU with unit 0. An exception whose entry depends on a Coprocessor 0 write
whose spacing is not over is refused instead (R574). (44_coprocessor.md R437, 44_coprocessor.md R438,
42_jump_branch.md R343, log entry 25) -/
def Obligations.ExceptionReturns : Prop :=
  decode (0b010000#6 ++ 1#1 ++ 0#19 ++ 0b011000#6) = .instr .eret ∧
    decode (0b010000#6 ++ 1#1 ++ 0#19 ++ 0b011111#6) = .instr .deret ∧
    ∀ s : State,
    (s.cop0Usable = false → Takes (exec .eret s) (.cpu 0#2) s ∧ Takes (exec .deret s) (.cpu 0#2) s) ∧
    (s.cop0Usable = true → s.delaySlot.isSome = true →
      exec .eret s = .refused .controlInDelaySlot ∧ exec .deret s = .refused .controlInDelaySlot) ∧
    (s.cop0Usable = true → s.delaySlot = none →
      (∃ t, exec .eret s = .next t ∧
        (s.cp0.status.erl = true →
          t.cp0 = { s.cp0 with status := { s.cp0.status with erl := false } } ∧
          t.pc = s.cp0.errorEpc.extractLsb' 1 31 ++ 0#1 ∧ t.isaMode = s.cp0.errorEpc.getLsbD 0) ∧
        (s.cp0.status.erl = false →
          t.cp0 = { s.cp0 with
            status := { s.cp0.status with exl := false }
            srs := { s.cp0.srs with css := if s.cp0.status.bev = true then s.cp0.srs.css else s.cp0.srs.pss } } ∧
          t.pc = s.cp0.epc.extractLsb' 1 31 ++ 0#1 ∧ t.isaMode = s.cp0.epc.getLsbD 0) ∧
        t.llbit = false ∧ t.delaySlot = none ∧ t.hazards = [] ∧ t.staleStatus = [] ∧
        (∀ a, codeStateAt t.codeWords a ≠ .synced) ∧ t.waiting = s.waiting ∧ KeepsData s t) ∧
      (s.cp0.dbg.dm = false → Takes (exec .deret s) .ri s) ∧
      (s.cp0.dbg.dm = true → ∃ t, exec .deret s = .next t ∧
        t.cp0 = { s.cp0 with dbg := { s.cp0.dbg with dm := false, iexi := false } } ∧
        t.pc = s.cp0.depc.extractLsb' 1 31 ++ 0#1 ∧ t.isaMode = s.cp0.depc.getLsbD 0 ∧
        t.llbit = s.llbit ∧ t.delaySlot = none ∧ t.hazards = [] ∧ t.staleStatus = [] ∧
        (∀ a, codeStateAt t.codeWords a ≠ .synced) ∧ t.waiting = s.waiting ∧ KeepsData s t))

/-- From a state outside Debug mode with EXL and ERL clear, an exception followed at once by ERET is back at the
restart address in the same ISA mode, with Status, the current register set and every general register as they
were. (60_exceptions.md section 3, 44_coprocessor.md section 3) -/
def Obligations.ReturnUndoesExceptionEntry : Prop :=
  ∀ (e : Exc) (s : State), s.cp0.dbg.dm = false → s.cp0.status.exl = false → s.cp0.status.erl = false →
    s.restartPc.getLsbD 0 = false → ∃ t, exec .eret (raise e s) = .next t ∧
      t.pc = s.restartPc ∧ t.isaMode = s.isaMode ∧ t.delaySlot = none ∧ t.cp0.status = s.cp0.status ∧
      t.cp0.srs.css = s.cp0.srs.css ∧ (∀ r, t.reg r = s.reg r) ∧ SameRegs s t ∧ t.hi = s.hi ∧ t.lo = s.lo

/-- LB, LBU, LH, LHU and LW, with the encodings of their rules: where the access passes its checks and finds
storage, rt receives the byte, the little-endian halfword or the little-endian word at the address, sign- or
zero-extended (a load into r0 discards it), and nothing else changes; a misaligned address or a User mode
address with bit 31 set raises AdEL at it; a rejected access raises DBE or faults, as BusErrorMode says. An
exception whose entry depends on a Coprocessor 0 write whose spacing is not over is refused instead (R574).
(R221, R222, R223, R224, R225) -/
def Obligations.LoadsReadMemory : Prop :=
  ∀ (base rt : Reg) (offset : BitVec 16) (s : State),
    s.effectiveAddress base offset = BitVec.ofInt 32 ((s.reg base).toInt + offset.toInt) ∧
    (decode (0b100000#6 ++ base ++ rt ++ offset) = .instr (.lb base rt offset) ∧
      LoadRule (.lb base rt offset) 1 (s.effectiveAddress base offset) rt (fun a => BitVec.ofInt 32 (readByte s.mem a).toInt) s) ∧
    (decode (0b100100#6 ++ base ++ rt ++ offset) = .instr (.lbu base rt offset) ∧
      LoadRule (.lbu base rt offset) 1 (s.effectiveAddress base offset) rt (fun a => BitVec.ofNat 32 (readByte s.mem a).toNat) s) ∧
    (decode (0b100001#6 ++ base ++ rt ++ offset) = .instr (.lh base rt offset) ∧
      LoadRule (.lh base rt offset) 2 (s.effectiveAddress base offset) rt (fun a => BitVec.ofInt 32 (readByte s.mem (a + 1) ++ readByte s.mem a).toInt) s) ∧
    (decode (0b100101#6 ++ base ++ rt ++ offset) = .instr (.lhu base rt offset) ∧
      LoadRule (.lhu base rt offset) 2 (s.effectiveAddress base offset) rt (fun a => BitVec.ofNat 32 (readByte s.mem (a + 1) ++ readByte s.mem a).toNat) s) ∧
    (decode (0b100011#6 ++ base ++ rt ++ offset) = .instr (.lw base rt offset) ∧
      LoadRule (.lw base rt offset) 4 (s.effectiveAddress base offset) rt (fun a => readByte s.mem (a + 3) ++ readByte s.mem (a + 2) ++ readByte s.mem (a + 1) ++ readByte s.mem a) s)

/-- LWL and LWR at place b of the aligned word: LWL puts bytes 0 to b of the aligned word into the high bytes of rt
and keeps the others, LWR puts bytes b to 3 into the low bytes and keeps the others; no alignment is asked; a
User mode address with bit 31 set raises AdEL at it, a rejected access raises DBE or faults. An exception whose
entry depends on a Coprocessor 0 write whose spacing is not over is refused instead (R574). (R226,
40_load_store.md section 2) -/
def Obligations.PartialLoadsMerge : Prop :=
  ∀ (base rt : Reg) (offset : BitVec 16) (s : State),
    decode (0b100010#6 ++ base ++ rt ++ offset) = .instr (.lwl base rt offset) ∧
    decode (0b100110#6 ++ base ++ rt ++ offset) = .instr (.lwr base rt offset) ∧
    LoadRule (.lwl base rt offset) 1 (s.effectiveAddress base offset) rt
      (fun a =>
        let byte := fun j => if 3 ≤ j + a % 4 then readByte s.mem (a / 4 * 4 + (j + a % 4 - 3)) else (s.reg rt).extractLsb' (8 * j) 8
        byte 3 ++ byte 2 ++ byte 1 ++ byte 0) s ∧
    LoadRule (.lwr base rt offset) 1 (s.effectiveAddress base offset) rt
      (fun a =>
        let byte := fun j => if j + a % 4 ≤ 3 then readByte s.mem (a + j) else (s.reg rt).extractLsb' (8 * j) 8
        byte 3 ++ byte 2 ++ byte 1 ++ byte 0) s

/-- Where base is not rt, rt is not r0, both addresses pass their checks and find storage, and the four bytes lie at
consecutive physical addresses, LWR at A followed by LWL at A + 3 loads the little-endian word at A, and the
pair leaves every other register and every byte of memory unchanged. (40_load_store.md section 2) -/
def Obligations.UnalignedLoadPair : Prop :=
  ∀ (base rt : Reg) (low high : BitVec 16) (s : State) (pa pa3 : Word), base ≠ rt → rt ≠ 0#5 →
    s.effectiveAddress base high = s.effectiveAddress base low + 3#32 →
    AccessOk 1 (s.effectiveAddress base low) s pa → LoadsStorage s pa →
    AccessOk 1 (s.effectiveAddress base high) s pa3 → LoadsStorage s pa3 → pa3.toNat = pa.toNat + 3 →
    ∃ t u, exec (.lwr base rt low) s = .next t ∧ exec (.lwl base rt high) t = .next u ∧
      OnlyReg s.cp0.srs.css rt (readByte s.mem (pa.toNat + 3) ++ readByte s.mem (pa.toNat + 2) ++
        readByte s.mem (pa.toNat + 1) ++ readByte s.mem pa.toNat) s u ∧
      SystemSame s u ∧ SameAcc s u

/-- SB, SH and SW, with the encodings of their rules: where the access passes its checks and finds RAM, the byte,
the two bytes or the four bytes from the physical address on receive the low bytes of rt, least significant
first, every other byte of memory, every register and all other state is unchanged; a misaligned address or a
User mode address with bit 31 set raises AdES at it; a rejected access raises DBE or faults. (To a peripheral
register: PeripheralRegisterAccess.) An exception whose entry depends on a Coprocessor 0 write whose spacing is
not over is refused instead (R574). (R228, R229, 40_load_store.md section 3) -/
def Obligations.StoresWriteMemory : Prop :=
  ∀ (base rt : Reg) (offset : BitVec 16) (s : State),
    decode (0b101000#6 ++ base ++ rt ++ offset) = .instr (.sb base rt offset) ∧
    StoreRule (.sb base rt offset) 1 (s.effectiveAddress base offset) BitVec.toNat (fun _ => 1)
      (fun k => (s.reg rt).extractLsb' (8 * k) 8) s ∧
    decode (0b101001#6 ++ base ++ rt ++ offset) = .instr (.sh base rt offset) ∧
    StoreRule (.sh base rt offset) 2 (s.effectiveAddress base offset) BitVec.toNat (fun _ => 2)
      (fun k => (s.reg rt).extractLsb' (8 * k) 8) s ∧
    decode (0b101011#6 ++ base ++ rt ++ offset) = .instr (.sw base rt offset) ∧
    StoreRule (.sw base rt offset) 4 (s.effectiveAddress base offset) BitVec.toNat (fun _ => 4)
      (fun k => (s.reg rt).extractLsb' (8 * k) 8) s

/-- SWL at place b writes bytes 0 to b of the aligned word with the b + 1 most significant bytes of rt, SWR writes
bytes b to 3 with the 4 - b least significant bytes; every other byte of memory, every register and all other
state is unchanged; no alignment is asked; a User mode address with bit 31 set raises AdES at it, a rejected
access raises DBE or faults. An exception whose entry depends on a Coprocessor 0 write whose spacing is not over
is refused instead (R574). (R231, 40_load_store.md section 3) -/
def Obligations.PartialStoresWriteTheirBytes : Prop :=
  ∀ (base rt : Reg) (offset : BitVec 16) (s : State),
    decode (0b101010#6 ++ base ++ rt ++ offset) = .instr (.swl base rt offset) ∧
    decode (0b101110#6 ++ base ++ rt ++ offset) = .instr (.swr base rt offset) ∧
    StoreRule (.swl base rt offset) 1 (s.effectiveAddress base offset)
      (fun pa => pa.toNat / 4 * 4) (fun pa => pa.toNat % 4 + 1)
      (fun k => (s.reg rt).extractLsb' (8 * (3 - (s.effectiveAddress base offset).toNat % 4 + k)) 8) s ∧
    StoreRule (.swr base rt offset) 1 (s.effectiveAddress base offset)
      BitVec.toNat (fun pa => 4 - pa.toNat % 4) (fun k => (s.reg rt).extractLsb' (8 * k) 8) s

/-- A word stored to the base, set, clear or invert address of a peripheral register gives it the written word, the
or, the and-not or the exclusive or with its old value, in one step, and changes no other peripheral register,
no byte of memory and no other state; a word loaded from the base address is its value; a word loaded from one
of the other addresses is some value, and nothing but rt changes. That every bit takes what is written and that
a read of the base address returns it without side effect is the model's choice, log entry 20; sub-word
accesses, LL and SC to a peripheral register are not covered. (20_memory.md section 4, log entry 20) -/
def Obligations.PeripheralRegisterAccess : Prop :=
  ∀ (base rt : Reg) (offset : BitVec 16) (s : State) (pa : Word) (reg : Nat),
    AccessOk 4 (s.effectiveAddress base offset) s pa →
    (∀ kind, storeTarget s.cfg (wordAddr pa) = .device reg kind → Completes (.sw base rt offset) s fun t =>
      deviceGet t.devRegs reg = (match kind with
        | .base => s.reg rt
        | .set => deviceGet s.devRegs reg ||| s.reg rt
        | .clr => deviceGet s.devRegs reg &&& ~~~s.reg rt
        | .inv => deviceGet s.devRegs reg ^^^ s.reg rt) ∧
      (∀ r, r ≠ reg → deviceGet t.devRegs r = deviceGet s.devRegs r) ∧
      SameRegs s t ∧ SameAcc s t ∧ SystemSame { s with devRegs := t.devRegs } t ∧ MovesOn s t) ∧
    (loadTarget s.cfg (wordAddr pa) = .device reg .base →
      Completes (.lw base rt offset) s (WritesReg rt (deviceGet s.devRegs reg) s)) ∧
    ∀ kind, kind ≠ .base → loadTarget s.cfg (wordAddr pa) = .device reg kind →
      ∃ v n, Completes (.lw base rt offset) s (WritesReg rt v { s with freeIdx := n })

/-- LL, where the access passes its checks and finds storage, loads the little-endian word at its address into rt,
sets LLbit and changes nothing else; a misaligned address or a User mode address with bit 31 set raises AdEL at
it, a rejected access raises DBE or faults, and then, outside Debug mode, LLbit is unchanged. An exception whose
entry depends on a Coprocessor 0 write whose spacing is not over is refused instead (R574). (R233) -/
def Obligations.LoadLinkedSetsTheLink : Prop :=
  ∀ (base rt : Reg) (offset : BitVec 16) (s : State),
    decode (0b110000#6 ++ base ++ rt ++ offset) = .instr (.ll base rt offset) ∧
    (∀ pa, AccessOk 4 (s.effectiveAddress base offset) s pa → LoadsStorage s pa →
      Completes (.ll base rt offset) s
        (WritesReg rt (readByte s.mem (pa.toNat + 3) ++ readByte s.mem (pa.toNat + 2) ++
          readByte s.mem (pa.toNat + 1) ++ readByte s.mem pa.toNat) { s with llbit := true })) ∧
    AccessFails (.ll base rt offset) 4 (s.effectiveAddress base offset) (.adel (s.effectiveAddress base offset))
      loadTarget s ∧
    ∀ e, (raise e s).llbit = s.llbit

/-- SC, where the access passes its checks: with LLbit set and RAM at the address, the word rt is stored there and
rt becomes 1; with LLbit clear, no byte of memory changes and rt becomes 0; every other register and all other
state but LLbit (open afterwards, log entry 9) is unchanged; a misaligned address or a User mode address with
bit 31 set raises AdES at it whatever LLbit holds. An exception whose entry depends on a Coprocessor 0 write
whose spacing is not over is refused instead (R574). (40_load_store.md section 4, 20_memory.md section 6) -/
def Obligations.StoreConditional : Prop :=
  ∀ (base rt : Reg) (offset : BitVec 16) (s : State),
    decode (0b111000#6 ++ base ++ rt ++ offset) = .instr (.sc base rt offset) ∧
    (AddressError 4 (s.effectiveAddress base offset) s →
      Takes (exec (.sc base rt offset) s) (.ades (s.effectiveAddress base offset)) s) ∧
    ∀ pa, AccessOk 4 (s.effectiveAddress base offset) s pa →
      (s.llbit = true → storeTarget s.cfg (wordAddr pa) = .ram → Completes (.sc base rt offset) s fun t =>
        BytesStored pa.toNat 4 (fun k => (s.reg rt).extractLsb' (8 * k) 8) s t ∧
        OnlyReg s.cp0.srs.css rt 1#32 s t ∧ StoreFrame s t) ∧
      (s.llbit = false → Completes (.sc base rt offset) s fun t =>
        (∀ a, readByte t.mem a = readByte s.mem a) ∧ OnlyReg s.cp0.srs.css rt 0#32 s t ∧ StoreFrame s t)

/-- After a store by SB, SH, SW, SWL, SWR or SC (with LLbit set) to RAM the word stored to is marked stored, and the
mark of every other word is kept (but for what the barrier clears whose delay slot the store completes). While
FetchCoherence is barrier a fetch of a word marked stored or synchronized is refused, and of a word another bus
master wrote too; a fetch of a word without a mark, and while FetchCoherence is always of every word, reads it.
SYNCI of an address in a word marked stored marks it synchronized and changes no other mark (with the same
proviso); it completes at every address, in every mode, without an exception, and changes no register and no
byte of memory. In a state that meets the invariant, ERET, DERET in Debug mode and the end of the delay slot of
JR.HB or JALR.HB remove every mark synchronized and leave every other mark, stored among them. An instruction
that answers a next state leaves a word marked stored so, but for the SYNCI of it, and removes a mark
synchronized only where it is ERET or DERET or stands in the delay slot of a barrier jump. That the barrier of a
jump acts when its delay slot is complete is log entry 41; the marks are log entry 17. (20_memory.md section 6,
42_jump_branch.md section 2, 43_miscellaneous.md section 1, 44_coprocessor.md section 3, log entry 17, log entry
41) -/
def Obligations.StoredCodeNeedsSynchronization : Prop :=
  (∀ (base rt : Reg) (offset : BitVec 16) (s t : State) (pa : Word), storeTarget s.cfg (wordAddr pa) = .ram →
    ∀ c ∈ [(Instr.sb base rt offset, 1), (.sh base rt offset, 2), (.sw base rt offset, 4), (.swl base rt offset, 1),
      (.swr base rt offset, 1), (.sc base rt offset, 4)],
    AccessOk c.2 (s.effectiveAddress base offset) s pa → (c.1 = .sc base rt offset → s.llbit = true) →
    exec c.1 s = .next t → ∀ wa, codeStateAt t.codeWords wa =
      if wa = wordAddr pa then .stored else codeStateAt s.advance.codeWords wa) ∧
  (∀ (s : State) (wa : Nat),
    (s.cfg.fetchCoherence = .always ∨ codeStateAt s.codeWords wa = .clean →
      fetchStorage s wa = .word (readWord s.mem wa)) ∧
    (s.cfg.fetchCoherence = .barrier →
      (codeStateAt s.codeWords wa = .stored ∨ codeStateAt s.codeWords wa = .synced →
        fetchStorage s wa = .stop (.refused .fetchNotSynchronized)) ∧
      (codeStateAt s.codeWords wa = .foreign → fetchStorage s wa = .stop (.refused .fetchForeignCode)))) ∧
  (∀ (base : Reg) (offset : BitVec 16) (s : State), Completes (.synci base offset) s fun t =>
    SameRegs s t ∧ SameAcc s t ∧ SystemSame s t ∧ MovesOn s t ∧
    ∀ wa, codeStateAt t.codeWords wa =
      if codeStateAt s.advance.codeWords wa = .stored ∧
          wa = wordAddr (translate s.cp0.status.erl (s.effectiveAddress base offset)) then .synced
      else codeStateAt s.advance.codeWords wa) ∧
  (∀ (s t : State), s.Inv →
    (s.cop0Usable = true ∧ exec .eret s = .next t) ∨ (s.cp0.dbg.dm = true ∧ exec .deret s = .next t) ∨
      ((∃ d, s.delaySlot = some d ∧ d.barrier = true) ∧ t = s.advance) →
    ∀ wa, codeStateAt t.codeWords wa =
      if codeStateAt s.codeWords wa = .synced then .clean else codeStateAt s.codeWords wa) ∧
  ∀ (i : Instr) (s t : State) (wa : Nat), exec i s = .next t →
    (codeStateAt s.codeWords wa = .stored → codeStateAt t.codeWords wa = .stored ∨
      (codeStateAt t.codeWords wa = .synced ∧ ∃ base offset, i = .synci base offset ∧
        wa = wordAddr (translate s.cp0.status.erl (s.effectiveAddress base offset)))) ∧
    (codeStateAt s.codeWords wa = .synced → codeStateAt t.codeWords wa = .synced ∨ codeStateAt t.codeWords wa = .stored ∨
      i = .eret ∨ i = .deret ∨ ∃ d, s.delaySlot = some d ∧ d.barrier = true)

/-- With ERL clear, an address of kuseg translates to itself plus 0x40000000, kseg0 to itself less 0x80000000, kseg1
to itself less 0xA0000000, kseg2 and kseg3 to itself; with ERL set, the lower 2^29 bytes of kuseg translate to
themselves and everything else as before. (R129) -/
def Obligations.FixedMapping : Prop :=
  ∀ (erl : Bool) (va : Word),
    (va.toNat < 0x20000000 → erl = true → (translate erl va).toNat = va.toNat) ∧
    (va.toNat < 0x80000000 → (erl = false ∨ 0x20000000 ≤ va.toNat) →
      (translate erl va).toNat = va.toNat + 0x40000000) ∧
    (0x80000000 ≤ va.toNat → va.toNat < 0xA0000000 → (translate erl va).toNat = va.toNat - 0x80000000) ∧
    (0xA0000000 ≤ va.toNat → va.toNat < 0xC0000000 → (translate erl va).toNat = va.toNat - 0xA0000000) ∧
    (0xC0000000 ≤ va.toNat → (translate erl va).toNat = va.toNat)

/-- ADD, ADDI and SUB, with the encodings of their rules: where the exact signed sum or difference fits in 32 bits
it is written to the destination and nothing else changes; where it does not, Ov is raised (and the destination
is not written, as ExceptionEntry says). An exception whose entry depends on a Coprocessor 0 write whose spacing
is not over is refused instead (R574). (R262, R264, R266) -/
def Obligations.TrappingArithmetic : Prop :=
  ∀ (rs rt rd : Reg) (imm : BitVec 16) (s : State),
    decode (0b000000#6 ++ rs ++ rt ++ rd ++ 0#5 ++ 0b100000#6) = .instr (.add rs rt rd) ∧
    decode (0b000000#6 ++ rs ++ rt ++ rd ++ 0#5 ++ 0b100010#6) = .instr (.sub rs rt rd) ∧
    decode (0b001000#6 ++ rs ++ rt ++ imm) = .instr (.addi rs rt imm) ∧
    (if -(2 : Int) ^ 31 ≤ (s.reg rs).toInt + (s.reg rt).toInt ∧ (s.reg rs).toInt + (s.reg rt).toInt < (2 : Int) ^ 31 then
        Completes (.add rs rt rd) s (WritesReg rd (BitVec.ofInt 32 ((s.reg rs).toInt + (s.reg rt).toInt)) s)
      else Takes (exec (.add rs rt rd) s) .ov s) ∧
    (if -(2 : Int) ^ 31 ≤ (s.reg rs).toInt - (s.reg rt).toInt ∧ (s.reg rs).toInt - (s.reg rt).toInt < (2 : Int) ^ 31 then
        Completes (.sub rs rt rd) s (WritesReg rd (BitVec.ofInt 32 ((s.reg rs).toInt - (s.reg rt).toInt)) s)
      else Takes (exec (.sub rs rt rd) s) .ov s) ∧
    (if -(2 : Int) ^ 31 ≤ (s.reg rs).toInt + imm.toInt ∧ (s.reg rs).toInt + imm.toInt < (2 : Int) ^ 31 then
        Completes (.addi rs rt imm) s (WritesReg rt (BitVec.ofInt 32 ((s.reg rs).toInt + imm.toInt)) s)
      else Takes (exec (.addi rs rt imm) s) .ov s)

/-- ADDU, ADDIU and SUBU, with the encodings of their rules, write the sum, the sum with the sign-extended
immediate, or the difference modulo 2^32 to the destination; they raise nothing and nothing else changes. (R263,
R265, R267) -/
def Obligations.ModuloArithmetic : Prop :=
  ∀ (rs rt rd : Reg) (imm : BitVec 16) (s : State),
    decode (0b000000#6 ++ rs ++ rt ++ rd ++ 0#5 ++ 0b100001#6) = .instr (.addu rs rt rd) ∧
    decode (0b000000#6 ++ rs ++ rt ++ rd ++ 0#5 ++ 0b100011#6) = .instr (.subu rs rt rd) ∧
    decode (0b001001#6 ++ rs ++ rt ++ imm) = .instr (.addiu rs rt imm) ∧
    Completes (.addu rs rt rd) s (WritesReg rd (BitVec.ofNat 32 ((s.reg rs).toNat + (s.reg rt).toNat)) s) ∧
    Completes (.subu rs rt rd) s (WritesReg rd (BitVec.ofInt 32 ((s.reg rs).toInt - (s.reg rt).toInt)) s) ∧
    Completes (.addiu rs rt imm) s (WritesReg rt (BitVec.ofInt 32 ((s.reg rs).toInt + imm.toInt)) s)

/-- SLT and SLTI compare as signed, SLTU and SLTIU as unsigned numbers (the immediate sign-extended first) and write
1 where the first is less, else 0; LUI writes the immediate followed by sixteen zeros; nothing else changes.
(R268, R269, R270, R271, R272) -/
def Obligations.ComparisonsAndUpperLoad : Prop :=
  ∀ (rs rt rd : Reg) (imm : BitVec 16) (s : State),
    decode (0b000000#6 ++ rs ++ rt ++ rd ++ 0#5 ++ 0b101010#6) = .instr (.slt rs rt rd) ∧
    decode (0b000000#6 ++ rs ++ rt ++ rd ++ 0#5 ++ 0b101011#6) = .instr (.sltu rs rt rd) ∧
    decode (0b001010#6 ++ rs ++ rt ++ imm) = .instr (.slti rs rt imm) ∧
    decode (0b001011#6 ++ rs ++ rt ++ imm) = .instr (.sltiu rs rt imm) ∧
    decode (0b001111#6 ++ 0#5 ++ rt ++ imm) = .instr (.lui rt imm) ∧
    Completes (.slt rs rt rd) s (WritesReg rd (if (s.reg rs).toInt < (s.reg rt).toInt then 1#32 else 0#32) s) ∧
    Completes (.sltu rs rt rd) s (WritesReg rd (if (s.reg rs).toNat < (s.reg rt).toNat then 1#32 else 0#32) s) ∧
    Completes (.slti rs rt imm) s (WritesReg rt (if (s.reg rs).toInt < imm.toInt then 1#32 else 0#32) s) ∧
    Completes (.sltiu rs rt imm) s (WritesReg rt (if (s.reg rs).toNat < (BitVec.ofInt 32 imm.toInt).toNat then 1#32 else 0#32) s) ∧
    Completes (.lui rt imm) s (WritesReg rt (BitVec.ofNat 32 (imm.toNat * 65536)) s)

/-- AND, OR, XOR and NOR write to rd, and ANDI, ORI and XORI to rt, the word each of whose bits is the and, or,
exclusive or or nor of the operands' bits, the immediate zero-extended; nothing else changes. (R273, R274, R275,
R276, R277, R278, R279) -/
def Obligations.LogicalInstructions : Prop :=
  ∀ (rs rt rd : Reg) (imm : BitVec 16) (s : State),
    decode (0b000000#6 ++ rs ++ rt ++ rd ++ 0#5 ++ 0b100100#6) = .instr (.and_ rs rt rd) ∧
    decode (0b000000#6 ++ rs ++ rt ++ rd ++ 0#5 ++ 0b100101#6) = .instr (.or_ rs rt rd) ∧
    decode (0b000000#6 ++ rs ++ rt ++ rd ++ 0#5 ++ 0b100110#6) = .instr (.xor_ rs rt rd) ∧
    decode (0b000000#6 ++ rs ++ rt ++ rd ++ 0#5 ++ 0b100111#6) = .instr (.nor_ rs rt rd) ∧
    decode (0b001100#6 ++ rs ++ rt ++ imm) = .instr (.andi rs rt imm) ∧
    decode (0b001101#6 ++ rs ++ rt ++ imm) = .instr (.ori rs rt imm) ∧
    decode (0b001110#6 ++ rs ++ rt ++ imm) = .instr (.xori rs rt imm) ∧
    (∃ v : Word, (∀ k, k < 32 → v.getLsbD k = ((s.reg rs).getLsbD k && (s.reg rt).getLsbD k)) ∧ Completes (.and_ rs rt rd) s (WritesReg rd v s)) ∧
    (∃ v : Word, (∀ k, k < 32 → v.getLsbD k = ((s.reg rs).getLsbD k || (s.reg rt).getLsbD k)) ∧ Completes (.or_ rs rt rd) s (WritesReg rd v s)) ∧
    (∃ v : Word, (∀ k, k < 32 → v.getLsbD k = ((s.reg rs).getLsbD k ^^ (s.reg rt).getLsbD k)) ∧ Completes (.xor_ rs rt rd) s (WritesReg rd v s)) ∧
    (∃ v : Word, (∀ k, k < 32 → v.getLsbD k = (!((s.reg rs).getLsbD k || (s.reg rt).getLsbD k))) ∧ Completes (.nor_ rs rt rd) s (WritesReg rd v s)) ∧
    (∃ v : Word, (∀ k, k < 32 → v.getLsbD k = ((s.reg rs).getLsbD k && (decide (k < 16) && imm.getLsbD k))) ∧ Completes (.andi rs rt imm) s (WritesReg rt v s)) ∧
    (∃ v : Word, (∀ k, k < 32 → v.getLsbD k = ((s.reg rs).getLsbD k || (decide (k < 16) && imm.getLsbD k))) ∧ Completes (.ori rs rt imm) s (WritesReg rt v s)) ∧
    (∃ v : Word, (∀ k, k < 32 → v.getLsbD k = ((s.reg rs).getLsbD k ^^ (decide (k < 16) && imm.getLsbD k))) ∧ Completes (.xori rs rt imm) s (WritesReg rt v s))

/-- SLL, SRL, SRA and ROTR by sa, and SLLV, SRLV, SRAV and ROTRV by the low five bits of rs: the product with the
power of two modulo 2^32, the unsigned quotient, the signed quotient rounded down, the word each of whose bits
is the bit that many places up, cyclically; nothing else changes. (R280, R281, R282, R283, R284, R285, R286,
R287) -/
def Obligations.ShiftsAndRotates : Prop :=
  ∀ (rs rt rd : Reg) (sa : BitVec 5) (s : State),
    ((Instr.sll rt rd sa).wellFormed = true →
      decode (0b000000#6 ++ 0#5 ++ rt ++ rd ++ sa ++ 0b000000#6) = .instr (.sll rt rd sa)) ∧
    decode (0b000000#6 ++ 0b00000#5 ++ rt ++ rd ++ sa ++ 0b000010#6) = .instr (.srl rt rd sa) ∧
    decode (0b000000#6 ++ 0#5 ++ rt ++ rd ++ sa ++ 0b000011#6) = .instr (.sra rt rd sa) ∧
    decode (0b000000#6 ++ 0b00001#5 ++ rt ++ rd ++ sa ++ 0b000010#6) = .instr (.rotr rt rd sa) ∧
    decode (0b000000#6 ++ rs ++ rt ++ rd ++ 0#5 ++ 0b000100#6) = .instr (.sllv rs rt rd) ∧
    decode (0b000000#6 ++ rs ++ rt ++ rd ++ 0b00000#5 ++ 0b000110#6) = .instr (.srlv rs rt rd) ∧
    decode (0b000000#6 ++ rs ++ rt ++ rd ++ 0#5 ++ 0b000111#6) = .instr (.srav rs rt rd) ∧
    decode (0b000000#6 ++ rs ++ rt ++ rd ++ 0b00001#5 ++ 0b000110#6) = .instr (.rotrv rs rt rd) ∧
    Completes (.sll rt rd sa) s (WritesReg rd (BitVec.ofNat 32 ((s.reg rt).toNat * 2 ^ sa.toNat)) s) ∧
    Completes (.srl rt rd sa) s (WritesReg rd (BitVec.ofNat 32 ((s.reg rt).toNat / 2 ^ sa.toNat)) s) ∧
    Completes (.sra rt rd sa) s (WritesReg rd (BitVec.ofInt 32 ((s.reg rt).toInt / 2 ^ sa.toNat)) s) ∧
    (∃ v : Word, (∀ k, k < 32 → v.getLsbD k = ((s.reg rt).getLsbD ((k + sa.toNat) % 32))) ∧ Completes (.rotr rt rd sa) s (WritesReg rd v s)) ∧
    Completes (.sllv rs rt rd) s (WritesReg rd (BitVec.ofNat 32 ((s.reg rt).toNat * 2 ^ ((s.reg rs).toNat % 32))) s) ∧
    Completes (.srlv rs rt rd) s (WritesReg rd (BitVec.ofNat 32 ((s.reg rt).toNat / 2 ^ ((s.reg rs).toNat % 32))) s) ∧
    Completes (.srav rs rt rd) s (WritesReg rd (BitVec.ofInt 32 ((s.reg rt).toInt / 2 ^ ((s.reg rs).toNat % 32))) s) ∧
    (∃ v : Word, (∀ k, k < 32 → v.getLsbD k = ((s.reg rt).getLsbD ((k + (s.reg rs).toNat % 32) % 32))) ∧ Completes (.rotrv rs rt rd) s (WritesReg rd v s))

/-- CLZ and CLO with the rt field equal to rd write the number n, at most 32, such that the n leading bits are zeros
(ones) and, where n is below 32, the next bit is not; nothing else changes; with an rt field other than rd they
are refused. (R288, R289) -/
def Obligations.LeadingBitCounts : Prop :=
  ∀ (rs rt rd : Reg) (s : State),
    decode (0b011100#6 ++ rs ++ rt ++ rd ++ 0#5 ++ 0b100000#6) = .instr (.clz rs rt rd) ∧
    decode (0b011100#6 ++ rs ++ rt ++ rd ++ 0#5 ++ 0b100001#6) = .instr (.clo rs rt rd) ∧
    (∃ n ≤ 32, Completes (.clz rs rd rd) s (WritesReg rd (BitVec.ofNat 32 n) s) ∧
      (∀ k, 32 - n ≤ k → k < 32 → (s.reg rs).getLsbD k = false) ∧ (n < 32 → (s.reg rs).getLsbD (31 - n) = true)) ∧
    (∃ n ≤ 32, Completes (.clo rs rd rd) s (WritesReg rd (BitVec.ofNat 32 n) s) ∧
      (∀ k, 32 - n ≤ k → k < 32 → (s.reg rs).getLsbD k = true) ∧ (n < 32 → (s.reg rs).getLsbD (31 - n) = false)) ∧
    (rt ≠ rd → exec (.clz rs rt rd) s = .refused .countFields ∧ exec (.clo rs rt rd) s = .refused .countFields)

/-- EXT writes bits lsb + msbd to lsb of rs, zero-extended, and is refused where lsb + msbd exceeds 31; INS replaces
bits msb to lsb of rt with the low bits of rs and keeps the others, and is refused where lsb exceeds msb; SEB
and SEH sign-extend the low byte and halfword; WSBH swaps the bytes of each halfword; nothing else changes.
(R290, R291, R292, R293, R294) -/
def Obligations.BitFieldsAndExtensions : Prop :=
  ∀ (rs rt rd : Reg) (hi lsb : BitVec 5) (s : State),
    decode (0b011111#6 ++ rs ++ rt ++ hi ++ lsb ++ 0b000000#6) = .instr (.ext rs rt hi lsb) ∧
    decode (0b011111#6 ++ rs ++ rt ++ hi ++ lsb ++ 0b000100#6) = .instr (.ins rs rt hi lsb) ∧
    decode (0b011111#6 ++ 0#5 ++ rt ++ rd ++ 0b10000#5 ++ 0b100000#6) = .instr (.seb rt rd) ∧
    decode (0b011111#6 ++ 0#5 ++ rt ++ rd ++ 0b11000#5 ++ 0b100000#6) = .instr (.seh rt rd) ∧
    decode (0b011111#6 ++ 0#5 ++ rt ++ rd ++ 0b00010#5 ++ 0b100000#6) = .instr (.wsbh rt rd) ∧
    (lsb.toNat + hi.toNat ≤ 31 → (∃ v : Word, (∀ k, k < 32 → v.getLsbD k = (decide (k ≤ hi.toNat) && (s.reg rs).getLsbD (lsb.toNat + k))) ∧ Completes (.ext rs rt hi lsb) s (WritesReg rt v s))) ∧
    (31 < lsb.toNat + hi.toNat → exec (.ext rs rt hi lsb) s = .refused .bitRange) ∧
    (lsb.toNat ≤ hi.toNat → (∃ v : Word, (∀ k, k < 32 → v.getLsbD k = (if lsb.toNat ≤ k ∧ k ≤ hi.toNat then (s.reg rs).getLsbD (k - lsb.toNat) else (s.reg rt).getLsbD k)) ∧ Completes (.ins rs rt hi lsb) s (WritesReg rt v s))) ∧
    (hi.toNat < lsb.toNat → exec (.ins rs rt hi lsb) s = .refused .bitRange) ∧
    Completes (.seb rt rd) s (WritesReg rd (BitVec.ofInt 32 ((s.reg rt).extractLsb' 0 8).toInt) s) ∧
    Completes (.seh rt rd) s (WritesReg rd (BitVec.ofInt 32 ((s.reg rt).extractLsb' 0 16).toInt) s) ∧
    Completes (.wsbh rt rd) s (WritesReg rd ((s.reg rt).extractLsb' 16 8 ++ (s.reg rt).extractLsb' 24 8 ++ (s.reg rt).extractLsb' 0 8 ++ (s.reg rt).extractLsb' 8 8) s)

/-- MULT and MULTU put the exact 64-bit signed or unsigned product into HI and LO; MADD, MADDU, MSUB and MSUBU add
it to or subtract it from HI and LO taken as one 64-bit number, modulo 2^64; nothing else changes. (R295, R296,
R298, R299, R300, R301) -/
def Obligations.MultiplyAndAccumulate : Prop :=
  ∀ (rs rt : Reg) (s : State),
    decode (0b000000#6 ++ rs ++ rt ++ 0#5 ++ 0#5 ++ 0b011000#6) = .instr (.mult rs rt) ∧
    decode (0b000000#6 ++ rs ++ rt ++ 0#5 ++ 0#5 ++ 0b011001#6) = .instr (.multu rs rt) ∧
    decode (0b011100#6 ++ rs ++ rt ++ 0#5 ++ 0#5 ++ 0b000000#6) = .instr (.madd rs rt) ∧
    decode (0b011100#6 ++ rs ++ rt ++ 0#5 ++ 0#5 ++ 0b000001#6) = .instr (.maddu rs rt) ∧
    decode (0b011100#6 ++ rs ++ rt ++ 0#5 ++ 0#5 ++ 0b000100#6) = .instr (.msub rs rt) ∧
    decode (0b011100#6 ++ rs ++ rt ++ 0#5 ++ 0#5 ++ 0b000101#6) = .instr (.msubu rs rt) ∧
    (∀ p : BitVec 64, p = BitVec.ofInt 64 ((s.reg rs).toInt * (s.reg rt).toInt) →
      Completes (.mult rs rt) s (WritesHiLo (p.extractLsb' 32 32) (p.extractLsb' 0 32) s)) ∧
    (∀ p : BitVec 64, p = BitVec.ofNat 64 ((s.reg rs).toNat * (s.reg rt).toNat) →
      Completes (.multu rs rt) s (WritesHiLo (p.extractLsb' 32 32) (p.extractLsb' 0 32) s)) ∧
    (∀ p : BitVec 64, p = (s.hi ++ s.lo) + BitVec.ofInt 64 ((s.reg rs).toInt * (s.reg rt).toInt) →
      Completes (.madd rs rt) s (WritesHiLo (p.extractLsb' 32 32) (p.extractLsb' 0 32) s)) ∧
    (∀ p : BitVec 64, p = (s.hi ++ s.lo) + BitVec.ofNat 64 ((s.reg rs).toNat * (s.reg rt).toNat) →
      Completes (.maddu rs rt) s (WritesHiLo (p.extractLsb' 32 32) (p.extractLsb' 0 32) s)) ∧
    (∀ p : BitVec 64, p = (s.hi ++ s.lo) - BitVec.ofInt 64 ((s.reg rs).toInt * (s.reg rt).toInt) →
      Completes (.msub rs rt) s (WritesHiLo (p.extractLsb' 32 32) (p.extractLsb' 0 32) s)) ∧
    (∀ p : BitVec 64, p = (s.hi ++ s.lo) - BitVec.ofNat 64 ((s.reg rs).toNat * (s.reg rt).toNat) →
      Completes (.msubu rs rt) s (WritesHiLo (p.extractLsb' 32 32) (p.extractLsb' 0 32) s))

/-- MUL writes the product modulo 2^32 to rd; HI and LO then hold some value, and nothing else but the model's
counter of open values changes. (R297) -/
def Obligations.MultiplyToRegister : Prop :=
  ∀ (rs rt rd : Reg) (s : State),
    decode (0b011100#6 ++ rs ++ rt ++ rd ++ 0#5 ++ 0b000010#6) = .instr (.mul rs rt rd) ∧
    ∃ h l n, Completes (.mul rs rt rd) s
      (WritesReg rd (BitVec.ofNat 32 ((s.reg rs).toNat * (s.reg rt).toNat)) { s with hi := h, lo := l, freeIdx := n })

/-- DIV writes the quotient of the signed operands rounded toward zero to LO and the remainder, with the sign of the
dividend, to HI; DIVU the unsigned quotient and remainder; nothing else changes. With divisor 0, and for DIV of
-2^31 by -1, they complete too, raise nothing, and only HI and LO (and the model's counter of open values)
change, to some value. (R302, R303) -/
def Obligations.Division : Prop :=
  ∀ (rs rt : Reg) (s : State),
    decode (0b000000#6 ++ rs ++ rt ++ 0#5 ++ 0#5 ++ 0b011010#6) = .instr (.div rs rt) ∧
    decode (0b000000#6 ++ rs ++ rt ++ 0#5 ++ 0#5 ++ 0b011011#6) = .instr (.divu rs rt) ∧
    ((s.reg rt).toInt ≠ 0 → ¬((s.reg rs).toInt = -(2 : Int) ^ 31 ∧ (s.reg rt).toInt = -1) → Completes (.div rs rt) s
      (WritesHiLo (BitVec.ofInt 32 ((s.reg rs).toInt.tmod (s.reg rt).toInt)) (BitVec.ofInt 32 ((s.reg rs).toInt.tdiv (s.reg rt).toInt)) s)) ∧
    ((s.reg rt).toInt = 0 ∨ ((s.reg rs).toInt = -(2 : Int) ^ 31 ∧ (s.reg rt).toInt = -1) →
      ∃ h l n, Completes (.div rs rt) s (NoEffect { s with hi := h, lo := l, freeIdx := n })) ∧
    ((s.reg rt).toNat ≠ 0 → Completes (.divu rs rt) s
      (WritesHiLo (BitVec.ofNat 32 ((s.reg rs).toNat % (s.reg rt).toNat)) (BitVec.ofNat 32 ((s.reg rs).toNat / (s.reg rt).toNat)) s)) ∧
    ((s.reg rt).toNat = 0 → ∃ h l n, Completes (.divu rs rt) s (NoEffect { s with hi := h, lo := l, freeIdx := n }))

/-- MFHI and MFLO write HI and LO to rd; MTHI and MTLO write rs to HI or LO and leave the other of the two
unchanged; nothing else changes. (R304, R305, R306, R307) -/
def Obligations.HiLoMoves : Prop :=
  ∀ (rs rd : Reg) (s : State),
    decode (0b000000#6 ++ 0#5 ++ 0#5 ++ rd ++ 0#5 ++ 0b010000#6) = .instr (.mfhi rd) ∧
    decode (0b000000#6 ++ 0#5 ++ 0#5 ++ rd ++ 0#5 ++ 0b010010#6) = .instr (.mflo rd) ∧
    decode (0b000000#6 ++ rs ++ 0#5 ++ 0#5 ++ 0#5 ++ 0b010001#6) = .instr (.mthi rs) ∧
    decode (0b000000#6 ++ rs ++ 0#5 ++ 0#5 ++ 0#5 ++ 0b010011#6) = .instr (.mtlo rs) ∧
    Completes (.mfhi rd) s (WritesReg rd (s.hi) s) ∧
    Completes (.mflo rd) s (WritesReg rd (s.lo) s) ∧
    Completes (.mthi rs) s (WritesHiLo (s.reg rs) s.lo s) ∧
    Completes (.mtlo rs) s (WritesHiLo s.hi (s.reg rs) s)

/-- J, JAL, JALX, JR, JALR, JR.HB and JALR.HB outside a delay slot (JALR and JALR.HB with rs other than rd): the
delay slot comes next and after it the target (the region of the delay slot with the index, or the register with
bit 0 cleared and made the ISA mode; JALX sets the ISA mode); JAL and JALX write B + 8 to r31, JALR and JALR.HB
to rd; the .HB forms clear every hazard before the target is fetched, when the delay slot is complete, and keep
the hazards and marks through it (R350 says only the first; the moment is the choice of the model, log entry
41); nothing else changes. JALR and JALR.HB with rs = rd are refused. (42_jump_branch.md R346, 42_jump_branch.md
R347, 42_jump_branch.md R348, 42_jump_branch.md R349, 42_jump_branch.md R350, 42_jump_branch.md R351,
42_jump_branch.md R352, log entry 41) -/
def Obligations.Jumps : Prop :=
  ∀ (rs rd : Reg) (index : BitVec 26) (s : State),
    decode (0b000010#6 ++ index) = .instr (.j index) ∧
    decode (0b000011#6 ++ index) = .instr (.jal index) ∧
    decode (0b011101#6 ++ index) = .instr (.jalx index) ∧
    decode (0b000000#6 ++ rs ++ 0#5 ++ 0#5 ++ 0#5 ++ 0b001000#6) = .instr (.jr rs) ∧
    decode (0b000000#6 ++ rs ++ 0#5 ++ rd ++ 0#5 ++ 0b001001#6) = .instr (.jalr rs rd) ∧
    decode (0b000000#6 ++ rs ++ 0#5 ++ 0#5 ++ 0b10000#5 ++ 0b001000#6) = .instr (.jrHb rs) ∧
    decode (0b000000#6 ++ rs ++ 0#5 ++ rd ++ 0b10000#5 ++ 0b001001#6) = .instr (.jalrHb rs rd) ∧
    (rs = rd → exec (.jalr rs rd) s = .refused .readsLinkRegister ∧ exec (.jalrHb rs rd) s = .refused .readsLinkRegister) ∧
    (s.delaySlot = none →
      Completes (.j index) s (fun t =>
        SlotThen (BitVec.ofNat 32 ((s.pc + 4#32).toNat / 2 ^ 28 * 2 ^ 28 + index.toNat * 4)) (s.isaMode) false s t ∧ SameRegs s t ∧ TransferFrame s t) ∧
      Completes (.jal index) s (fun t =>
        SlotThen (BitVec.ofNat 32 ((s.pc + 4#32).toNat / 2 ^ 28 * 2 ^ 28 + index.toNat * 4)) (s.isaMode) false s t ∧ OnlyReg s.cp0.srs.css 31#5 (s.pc + 8#32) s t ∧ TransferFrame s t) ∧
      Completes (.jalx index) s (fun t =>
        SlotThen (BitVec.ofNat 32 ((s.pc + 4#32).toNat / 2 ^ 28 * 2 ^ 28 + index.toNat * 4)) (true) false s t ∧ OnlyReg s.cp0.srs.css 31#5 (s.pc + 8#32) s t ∧ TransferFrame s t) ∧
      Completes (.jr rs) s (fun t =>
        SlotThen (BitVec.ofNat 32 ((s.reg rs).toNat / 2 * 2)) (decide ((s.reg rs).toNat % 2 = 1)) false s t ∧ SameRegs s t ∧ TransferFrame s t) ∧
      Completes (.jrHb rs) s (fun t =>
        SlotThen (BitVec.ofNat 32 ((s.reg rs).toNat / 2 * 2)) (decide ((s.reg rs).toNat % 2 = 1)) true s t ∧ SameRegs s t ∧ TransferFrame s t) ∧
      (rs ≠ rd → Completes (.jalr rs rd) s (fun t =>
        SlotThen (BitVec.ofNat 32 ((s.reg rs).toNat / 2 * 2)) (decide ((s.reg rs).toNat % 2 = 1)) false s t ∧ OnlyReg s.cp0.srs.css rd (s.pc + 8#32) s t ∧ TransferFrame s t) ∧
        Completes (.jalrHb rs rd) s (fun t =>
        SlotThen (BitVec.ofNat 32 ((s.reg rs).toNat / 2 * 2)) (decide ((s.reg rs).toNat % 2 = 1)) true s t ∧ OnlyReg s.cp0.srs.css rd (s.pc + 8#32) s t ∧ TransferFrame s t)))

/-- BEQ, BNE, BLEZ, BGTZ, BLTZ and BGEZ outside a delay slot execute the delay slot and then go to the target (B + 4
plus four times the signed offset, modulo 2^32) where their condition holds and to B + 8 where it does not;
their likely forms go to B + 8 at once where it does not; no register and nothing else changes. (R353, R354,
R355, R356, R357, R358, R361, R362, R363, R364, R365, R366) -/
def Obligations.Branches : Prop :=
  ∀ (rs rt : Reg) (offset : BitVec 16) (s : State),
    decode (0b000100#6 ++ rs ++ rt ++ offset) = .instr (.beq rs rt offset) ∧
    decode (0b000101#6 ++ rs ++ rt ++ offset) = .instr (.bne rs rt offset) ∧
    decode (0b000110#6 ++ rs ++ 0#5 ++ offset) = .instr (.blez rs offset) ∧
    decode (0b000111#6 ++ rs ++ 0#5 ++ offset) = .instr (.bgtz rs offset) ∧
    decode (0b000001#6 ++ rs ++ 0b00000#5 ++ offset) = .instr (.bltz rs offset) ∧
    decode (0b000001#6 ++ rs ++ 0b00001#5 ++ offset) = .instr (.bgez rs offset) ∧
    decode (0b010100#6 ++ rs ++ rt ++ offset) = .instr (.beql rs rt offset) ∧
    decode (0b010101#6 ++ rs ++ rt ++ offset) = .instr (.bnel rs rt offset) ∧
    decode (0b010110#6 ++ rs ++ 0#5 ++ offset) = .instr (.blezl rs offset) ∧
    decode (0b010111#6 ++ rs ++ 0#5 ++ offset) = .instr (.bgtzl rs offset) ∧
    decode (0b000001#6 ++ rs ++ 0b00010#5 ++ offset) = .instr (.bltzl rs offset) ∧
    decode (0b000001#6 ++ rs ++ 0b00011#5 ++ offset) = .instr (.bgezl rs offset) ∧
    (s.delaySlot = none →
      Completes (.beq rs rt offset) s (fun t =>
        SlotThen (if (s.reg rs) = (s.reg rt) then BitVec.ofInt 32 (s.pc.toNat + 4 + 4 * offset.toInt) else s.pc + 8#32) s.isaMode false s t ∧ SameRegs s t ∧ TransferFrame s t) ∧
      Completes (.bne rs rt offset) s (fun t =>
        SlotThen (if (s.reg rs) ≠ (s.reg rt) then BitVec.ofInt 32 (s.pc.toNat + 4 + 4 * offset.toInt) else s.pc + 8#32) s.isaMode false s t ∧ SameRegs s t ∧ TransferFrame s t) ∧
      Completes (.blez rs offset) s (fun t =>
        SlotThen (if (s.reg rs).toInt ≤ 0 then BitVec.ofInt 32 (s.pc.toNat + 4 + 4 * offset.toInt) else s.pc + 8#32) s.isaMode false s t ∧ SameRegs s t ∧ TransferFrame s t) ∧
      Completes (.bgtz rs offset) s (fun t =>
        SlotThen (if 0 < (s.reg rs).toInt then BitVec.ofInt 32 (s.pc.toNat + 4 + 4 * offset.toInt) else s.pc + 8#32) s.isaMode false s t ∧ SameRegs s t ∧ TransferFrame s t) ∧
      Completes (.bltz rs offset) s (fun t =>
        SlotThen (if (s.reg rs).toInt < 0 then BitVec.ofInt 32 (s.pc.toNat + 4 + 4 * offset.toInt) else s.pc + 8#32) s.isaMode false s t ∧ SameRegs s t ∧ TransferFrame s t) ∧
      Completes (.bgez rs offset) s (fun t =>
        SlotThen (if 0 ≤ (s.reg rs).toInt then BitVec.ofInt 32 (s.pc.toNat + 4 + 4 * offset.toInt) else s.pc + 8#32) s.isaMode false s t ∧ SameRegs s t ∧ TransferFrame s t) ∧
      Completes (.beql rs rt offset) s (fun t =>
        (if (s.reg rs) = (s.reg rt) then SlotThen (BitVec.ofInt 32 (s.pc.toNat + 4 + 4 * offset.toInt)) s.isaMode false s t else GoesTo (s.pc + 8#32) s t) ∧
        SameRegs s t ∧ TransferFrame s t) ∧
      Completes (.bnel rs rt offset) s (fun t =>
        (if (s.reg rs) ≠ (s.reg rt) then SlotThen (BitVec.ofInt 32 (s.pc.toNat + 4 + 4 * offset.toInt)) s.isaMode false s t else GoesTo (s.pc + 8#32) s t) ∧
        SameRegs s t ∧ TransferFrame s t) ∧
      Completes (.blezl rs offset) s (fun t =>
        (if (s.reg rs).toInt ≤ 0 then SlotThen (BitVec.ofInt 32 (s.pc.toNat + 4 + 4 * offset.toInt)) s.isaMode false s t else GoesTo (s.pc + 8#32) s t) ∧
        SameRegs s t ∧ TransferFrame s t) ∧
      Completes (.bgtzl rs offset) s (fun t =>
        (if 0 < (s.reg rs).toInt then SlotThen (BitVec.ofInt 32 (s.pc.toNat + 4 + 4 * offset.toInt)) s.isaMode false s t else GoesTo (s.pc + 8#32) s t) ∧
        SameRegs s t ∧ TransferFrame s t) ∧
      Completes (.bltzl rs offset) s (fun t =>
        (if (s.reg rs).toInt < 0 then SlotThen (BitVec.ofInt 32 (s.pc.toNat + 4 + 4 * offset.toInt)) s.isaMode false s t else GoesTo (s.pc + 8#32) s t) ∧
        SameRegs s t ∧ TransferFrame s t) ∧
      Completes (.bgezl rs offset) s (fun t =>
        (if 0 ≤ (s.reg rs).toInt then SlotThen (BitVec.ofInt 32 (s.pc.toNat + 4 + 4 * offset.toInt)) s.isaMode false s t else GoesTo (s.pc + 8#32) s t) ∧
        SameRegs s t ∧ TransferFrame s t))

/-- BLTZAL and BGEZAL and their likely forms outside a delay slot, with rs other than 31, write B + 8 to r31 whether
or not they branch, and branch as BLTZ, BGEZ and their likely forms do, on the value of rs before the link;
nothing else changes; with rs = 31 they are refused. (R359, R360, R367, R368) -/
def Obligations.LinkingBranches : Prop :=
  ∀ (rs : Reg) (offset : BitVec 16) (s : State),
    decode (0b000001#6 ++ rs ++ 0b10000#5 ++ offset) = .instr (.bltzal rs offset) ∧
    decode (0b000001#6 ++ rs ++ 0b10001#5 ++ offset) = .instr (.bgezal rs offset) ∧
    decode (0b000001#6 ++ rs ++ 0b10010#5 ++ offset) = .instr (.bltzall rs offset) ∧
    decode (0b000001#6 ++ rs ++ 0b10011#5 ++ offset) = .instr (.bgezall rs offset) ∧
    (∀ i ∈ [Instr.bltzal 31#5 offset, .bgezal 31#5 offset, .bltzall 31#5 offset, .bgezall 31#5 offset],
      exec i s = .refused .readsLinkRegister) ∧
    (s.delaySlot = none → rs ≠ 31#5 →
      Completes (.bltzal rs offset) s (fun t =>
        SlotThen (if (s.reg rs).toInt < 0 then BitVec.ofInt 32 (s.pc.toNat + 4 + 4 * offset.toInt) else s.pc + 8#32) s.isaMode false s t ∧
        OnlyReg s.cp0.srs.css 31#5 (s.pc + 8#32) s t ∧ TransferFrame s t) ∧
      Completes (.bgezal rs offset) s (fun t =>
        SlotThen (if 0 ≤ (s.reg rs).toInt then BitVec.ofInt 32 (s.pc.toNat + 4 + 4 * offset.toInt) else s.pc + 8#32) s.isaMode false s t ∧
        OnlyReg s.cp0.srs.css 31#5 (s.pc + 8#32) s t ∧ TransferFrame s t) ∧
      Completes (.bltzall rs offset) s (fun t =>
        (if (s.reg rs).toInt < 0 then SlotThen (BitVec.ofInt 32 (s.pc.toNat + 4 + 4 * offset.toInt)) s.isaMode false s t else GoesTo (s.pc + 8#32) s t) ∧
        OnlyReg s.cp0.srs.css 31#5 (s.pc + 8#32) s t ∧ TransferFrame s t) ∧
      Completes (.bgezall rs offset) s (fun t =>
        (if 0 ≤ (s.reg rs).toInt then SlotThen (BitVec.ofInt 32 (s.pc.toNat + 4 + 4 * offset.toInt)) s.isaMode false s t else GoesTo (s.pc + 8#32) s t) ∧
        OnlyReg s.cp0.srs.css 31#5 (s.pc + 8#32) s t ∧ TransferFrame s t))

/-- In a delay slot every branch and jump is refused, a linking form that reads its link register for that reason;
so are ERET, DERET and WAIT where Coprocessor 0 is usable. That the read of the link register is the reason
given first, and that DERET outside Debug mode is refused there rather than raising RI (R438 names both), are
the readings of log entry 25. (42_jump_branch.md section 1, 44_coprocessor.md section 3, 44_coprocessor.md
section 4, log entry 25) -/
def Obligations.NoControlTransferInDelaySlot : Prop :=
  ∀ (rs rt rd : Reg) (offset : BitVec 16) (index : BitVec 26) (code : BitVec 19) (s : State) (d : DelaySlot),
    s.delaySlot = some d →
    (∀ i ∈ [Instr.j index, .jal index, .jalx index, .jr rs, .jalr rs rd, .jrHb rs, .jalrHb rs rd, .beq rs rt offset,
      .bne rs rt offset, .blez rs offset, .bgtz rs offset, .bltz rs offset, .bgez rs offset, .bltzal rs offset,
      .bgezal rs offset, .beql rs rt offset, .bnel rs rt offset, .blezl rs offset, .bgtzl rs offset, .bltzl rs offset,
      .bgezl rs offset, .bltzall rs offset, .bgezall rs offset],
      exec i s = .refused (if i.wellFormed then .controlInDelaySlot else .readsLinkRegister)) ∧
    (s.cop0Usable = true → exec .eret s = .refused .controlInDelaySlot ∧
      exec .deret s = .refused .controlInDelaySlot ∧ exec (.wait code) s = .refused .waitInDelaySlot)

/-- TGE, TGEU, TLT, TLTU, TEQ, TNE and their immediate forms (the immediate sign-extended, and compared as unsigned
in TGEIU and TLTIU) raise Tr where their condition holds; where it does not, execution moves on and nothing else
changes. An exception whose entry depends on a Coprocessor 0 write whose spacing is not over is refused instead
(R574). (R384, R385, R386, R387, R388, R389, R390, R391, R392, R393, R394, R395) -/
def Obligations.TrapInstructions : Prop :=
  ∀ (rs rt : Reg) (code : BitVec 10) (imm : BitVec 16) (s : State),
    decode (0b000000#6 ++ rs ++ rt ++ code ++ 0b110000#6) = .instr (.tge rs rt code) ∧
    decode (0b000000#6 ++ rs ++ rt ++ code ++ 0b110001#6) = .instr (.tgeu rs rt code) ∧
    decode (0b000000#6 ++ rs ++ rt ++ code ++ 0b110010#6) = .instr (.tlt rs rt code) ∧
    decode (0b000000#6 ++ rs ++ rt ++ code ++ 0b110011#6) = .instr (.tltu rs rt code) ∧
    decode (0b000000#6 ++ rs ++ rt ++ code ++ 0b110100#6) = .instr (.teq rs rt code) ∧
    decode (0b000000#6 ++ rs ++ rt ++ code ++ 0b110110#6) = .instr (.tne rs rt code) ∧
    decode (0b000001#6 ++ rs ++ 0b01000#5 ++ imm) = .instr (.tgei rs imm) ∧
    decode (0b000001#6 ++ rs ++ 0b01001#5 ++ imm) = .instr (.tgeiu rs imm) ∧
    decode (0b000001#6 ++ rs ++ 0b01010#5 ++ imm) = .instr (.tlti rs imm) ∧
    decode (0b000001#6 ++ rs ++ 0b01011#5 ++ imm) = .instr (.tltiu rs imm) ∧
    decode (0b000001#6 ++ rs ++ 0b01100#5 ++ imm) = .instr (.teqi rs imm) ∧
    decode (0b000001#6 ++ rs ++ 0b01110#5 ++ imm) = .instr (.tnei rs imm) ∧
    (if (s.reg rt).toInt ≤ (s.reg rs).toInt then Takes (exec (.tge rs rt code) s) .tr s else Completes (.tge rs rt code) s (NoEffect s)) ∧
    (if (s.reg rt).toNat ≤ (s.reg rs).toNat then Takes (exec (.tgeu rs rt code) s) .tr s else Completes (.tgeu rs rt code) s (NoEffect s)) ∧
    (if (s.reg rs).toInt < (s.reg rt).toInt then Takes (exec (.tlt rs rt code) s) .tr s else Completes (.tlt rs rt code) s (NoEffect s)) ∧
    (if (s.reg rs).toNat < (s.reg rt).toNat then Takes (exec (.tltu rs rt code) s) .tr s else Completes (.tltu rs rt code) s (NoEffect s)) ∧
    (if (s.reg rs) = (s.reg rt) then Takes (exec (.teq rs rt code) s) .tr s else Completes (.teq rs rt code) s (NoEffect s)) ∧
    (if (s.reg rs) ≠ (s.reg rt) then Takes (exec (.tne rs rt code) s) .tr s else Completes (.tne rs rt code) s (NoEffect s)) ∧
    (if imm.toInt ≤ (s.reg rs).toInt then Takes (exec (.tgei rs imm) s) .tr s else Completes (.tgei rs imm) s (NoEffect s)) ∧
    (if (BitVec.ofInt 32 imm.toInt).toNat ≤ (s.reg rs).toNat then Takes (exec (.tgeiu rs imm) s) .tr s else Completes (.tgeiu rs imm) s (NoEffect s)) ∧
    (if (s.reg rs).toInt < imm.toInt then Takes (exec (.tlti rs imm) s) .tr s else Completes (.tlti rs imm) s (NoEffect s)) ∧
    (if (s.reg rs).toNat < (BitVec.ofInt 32 imm.toInt).toNat then Takes (exec (.tltiu rs imm) s) .tr s else Completes (.tltiu rs imm) s (NoEffect s)) ∧
    (if (s.reg rs) = BitVec.ofInt 32 imm.toInt then Takes (exec (.teqi rs imm) s) .tr s else Completes (.teqi rs imm) s (NoEffect s)) ∧
    (if (s.reg rs) ≠ BitVec.ofInt 32 imm.toInt then Takes (exec (.tnei rs imm) s) .tr s else Completes (.tnei rs imm) s (NoEffect s))

/-- SYSCALL and BREAK, whatever their code and in every mode, raise Sys and Bp; outside Debug mode EXCCODE is then 8
and 9, EXL is set, and where it was clear EPC holds the address of the instruction, or of the branch before it
with BD set in a delay slot. An exception whose entry depends on a Coprocessor 0 write whose spacing is not over
is refused instead (R574). (R382, R383) -/
def Obligations.SystemCallAndBreakpoint : Prop :=
  ∀ (code : BitVec 20) (s : State),
    decode (0b000000#6 ++ code ++ 0b001100#6) = .instr (.syscall code) ∧
    decode (0b000000#6 ++ code ++ 0b001101#6) = .instr (.break_ code) ∧
    Takes (exec (.syscall code) s) .sys s ∧ Takes (exec (.break_ code) s) .bp s ∧
    (s.hazards = [] → exec (.syscall code) s = .next (raise .sys s) ∧ exec (.break_ code) s = .next (raise .bp s)) ∧
    (s.cp0.dbg.dm = false → ∀ e ∈ [Exc.sys, Exc.bp],
      (raise e s).cp0.cause.excCode = (if e = .sys then 8#5 else 9#5) ∧ (raise e s).cp0.status.exl = true ∧
      (s.cp0.status.exl = false →
        (s.delaySlot = none → (raise e s).cp0.epc = s.pc.extractLsb' 1 31 ++ BitVec.ofBool s.isaMode ∧
          (raise e s).cp0.cause.bd = false) ∧
        ∀ d, s.delaySlot = some d → (raise e s).cp0.epc = d.branch.extractLsb' 1 31 ++ BitVec.ofBool s.isaMode ∧
          (raise e s).cp0.cause.bd = true))

/-- MOVN writes rs to rd where rt is not zero and MOVZ where rt is zero; elsewhere rd is unchanged; nothing else
changes. (R396, R397) -/
def Obligations.ConditionalMoves : Prop :=
  ∀ (rs rt rd : Reg) (s : State),
    decode (0b000000#6 ++ rs ++ rt ++ rd ++ 0#5 ++ 0b001011#6) = .instr (.movn rs rt rd) ∧
    decode (0b000000#6 ++ rs ++ rt ++ rd ++ 0#5 ++ 0b001010#6) = .instr (.movz rs rt rd) ∧
    ((s.reg rt) ≠ 0#32 → Completes (.movn rs rt rd) s (WritesReg rd ((s.reg rs)) s) ∧ Completes (.movz rs rt rd) s (NoEffect s)) ∧
    ((s.reg rt) = 0#32 → Completes (.movz rs rt rd) s (WritesReg rd ((s.reg rs)) s) ∧ Completes (.movn rs rt rd) s (NoEffect s))

/-- NOP, SSNOP, SYNC with every stype, PREF with every hint and address in every mode, and CACHE where Coprocessor 0
is usable, move execution on and change nothing else; CACHE where it is not raises CpU with unit 0; EHB clears
every execution hazard, keeps the instruction hazard, and changes nothing else. An exception whose entry depends
on a Coprocessor 0 write whose spacing is not over is refused instead (R574). (R380, R398, R399, R400, R402,
R403) -/
def Obligations.InstructionsWithoutEffect : Prop :=
  ∀ (base hint stype : BitVec 5) (offset : BitVec 16) (s : State),
    decode 0x00000000#32 = .instr .nop ∧ decode 0x00000040#32 = .instr .ssnop ∧ decode 0x000000C0#32 = .instr .ehb ∧
    decode (0b000000#6 ++ 0#5 ++ 0#5 ++ 0#5 ++ stype ++ 0b001111#6) = .instr (.sync stype) ∧
    decode (0b110011#6 ++ base ++ hint ++ offset) = .instr (.pref base hint offset) ∧
    decode (0b101111#6 ++ base ++ hint ++ offset) = .instr (.cache base hint offset) ∧
    (∀ i ∈ [Instr.nop, .ssnop, .sync stype, .pref base hint offset], Completes i s (NoEffect s)) ∧
    Completes .ehb s (NoEffect { s with hazards := [] }) ∧
    (s.cop0Usable = true → Completes (.cache base hint offset) s (NoEffect s)) ∧
    (s.cop0Usable = false → Takes (exec (.cache base hint offset) s) (.cpu 0#2) s)

/-- RDHWR of register 0, 1, 2 or 3 writes 0, 0, Count or 2 to rt, where Coprocessor 0 is usable (Kernel or Debug
mode, or CU0) or HWREna enables it, and nothing else changes; in User mode without CU0 and without the HWREna
bit, and for a register above 3, it raises RI. An exception whose entry depends on a Coprocessor 0 write whose
spacing is not over is refused instead (R574). (R401) -/
def Obligations.ReadHardwareRegister : Prop :=
  ∀ (rt rd : Reg) (s : State),
    decode (0b011111#6 ++ 0#5 ++ rt ++ rd ++ 0#5 ++ 0b111011#6) = .instr (.rdhwr rt rd) ∧
    (3 < rd.toNat → Takes (exec (.rdhwr rt rd) s) .ri s) ∧
    (rd.toNat ≤ 3 →
      (s.userMode = true ∧ s.cp0.status.cu0 = false ∧ s.cp0.hwrEna.getLsbD rd.toNat = false →
        Takes (exec (.rdhwr rt rd) s) .ri s) ∧
      (s.userMode = false ∨ s.cp0.status.cu0 = true ∨ s.cp0.hwrEna.getLsbD rd.toNat = true →
        Completes (.rdhwr rt rd) s (WritesReg rt
          (if rd = 2#5 then s.cp0.count else if rd = 3#5 then 2#32 else 0#32) s)))

/-- COP1, MOVF and MOVT, LWC1, LDC1, SWC1 and SDC1 raise CpU with unit 1, COP2, LWC2, LDC2, SWC2 and SDC2 with unit
2, COP1X with unit 1 or 3, in every mode and whatever the other bits of the word; outside Debug mode Cause.CE is
then the unit and EXCCODE 11. That MOVF and MOVT raise it at every value of their bits 17 and 10:6 is the
reading of log entry 23. An exception whose entry depends on a Coprocessor 0 write whose spacing is not over is
refused instead (R574). (44_coprocessor.md R441, 44_coprocessor.md R442, 44_coprocessor.md R443,
44_coprocessor.md R444, 44_coprocessor.md R445, 43_miscellaneous.md R405, 60_exceptions.md R477, log entry 23) -/
def Obligations.AbsentCoprocessors : Prop :=
  (∀ (bits : BitVec 26) (base ft : BitVec 5) (offset : BitVec 16),
    decode (0b010001#6 ++ bits) = .instr (.cop1 bits) ∧
    decode (0b010010#6 ++ bits) = .instr (.cop2 bits) ∧
    decode (0b010011#6 ++ bits) = .instr (.cop1x bits) ∧
    decode (0b110001#6 ++ base ++ ft ++ offset) = .instr (.lwc1 base ft offset) ∧
    decode (0b110101#6 ++ base ++ ft ++ offset) = .instr (.ldc1 base ft offset) ∧
    decode (0b111001#6 ++ base ++ ft ++ offset) = .instr (.swc1 base ft offset) ∧
    decode (0b111101#6 ++ base ++ ft ++ offset) = .instr (.sdc1 base ft offset) ∧
    decode (0b110010#6 ++ base ++ ft ++ offset) = .instr (.lwc2 base ft offset) ∧
    decode (0b110110#6 ++ base ++ ft ++ offset) = .instr (.ldc2 base ft offset) ∧
    decode (0b111010#6 ++ base ++ ft ++ offset) = .instr (.swc2 base ft offset) ∧
    decode (0b111110#6 ++ base ++ ft ++ offset) = .instr (.sdc2 base ft offset)) ∧
  (∀ (bits : BitVec 26) (base ft rd low : BitVec 5) (cc : BitVec 3) (b17 tf : BitVec 1) (offset : BitVec 16) (s : State),
    (∀ i ∈ [Instr.cop1 bits, .lwc1 base ft offset, .ldc1 base ft offset, .swc1 base ft offset, .sdc1 base ft offset,
      .movci base cc b17 tf rd low],
      Takes (exec i s) (.cpu 1#2) s ∧ (s.hazards = [] → exec i s = .next (raise (.cpu 1#2) s))) ∧
    ∀ i ∈ [Instr.cop2 bits, .lwc2 base ft offset, .ldc2 base ft offset, .swc2 base ft offset, .sdc2 base ft offset],
      Takes (exec i s) (.cpu 2#2) s ∧ (s.hazards = [] → exec i s = .next (raise (.cpu 2#2) s))) ∧
  (∃ unit, (unit = 1#2 ∨ unit = 3#2) ∧ ∀ bits s, Takes (exec (.cop1x bits) s) (.cpu unit) s ∧
    (s.hazards = [] → exec (.cop1x bits) s = .next (raise (.cpu unit) s))) ∧
  ∀ unit s, s.cp0.dbg.dm = false →
    (raise (.cpu unit) s).cp0.cause.ce = unit ∧ (raise (.cpu unit) s).cp0.cause.excCode = 11#5

/-- Coprocessor 0 is usable exactly outside User mode or with CU0 set, User mode being UM set with EXL, ERL and DM
clear; where it is not usable, every Coprocessor 0 instruction and CACHE raises CpU with unit 0, before anything
else, and so does every word with opcode COP0 or CACHE, whatever its other bits and whether or not it decodes to
an instruction (where whether Coprocessor 0 is usable depends on no pending write). An exception whose entry
depends on a Coprocessor 0 write whose spacing is not over is refused instead (R574). (R430) -/
def Obligations.Coprocessor0Privilege : Prop :=
  ∀ s : State,
    (s.userMode = true ↔ s.cp0.status.um = true ∧ s.cp0.status.exl = false ∧ s.cp0.status.erl = false ∧
      s.cp0.dbg.dm = false) ∧
    (s.cop0Usable = true ↔ s.userMode = false ∨ s.cp0.status.cu0 = true) ∧
    (s.cop0Usable = false → ∀ (rt rd base op : Reg) (sel : BitVec 3) (code : BitVec 19) (offset : BitVec 16),
      ∀ i ∈ [Instr.mfc0 rt rd sel, .mtc0 rt rd sel, .di rt, .ei rt, .rdpgpr rt rd, .wrpgpr rt rd, .eret, .deret,
        .wait code, .tlbr, .tlbwi, .tlbwr, .tlbp, .cache base op offset],
        Takes (exec i s) (.cpu 0#2) s) ∧
    (s.cop0Usable = false → cop0Hazard s = false → ∀ w : Word, opcodeOf w = 0x10#6 ∨ opcodeOf w = 0x2F#6 →
      Takes (runDecoded (decode w) s) (.cpu 0#2) s)

/-- Where Coprocessor 0 is usable, MFC0 of a register with a defined value writes that register's word, field by
field, to rt and changes nothing else; Debug outside Debug mode reads DM and VER as they are and the other bits
open, TraceControl2 (with HasTrace) reads TBI, TBU and SYP open until the Trace Control Block has loaded them;
the trace registers with HasTrace and Debug2 with HasComplexBreak; SRSMap on a core without shadow sets and a
reserved register read some value. (44_coprocessor.md section 1, 10_state.md section 3, 10_state.md section 4,
10_state.md section 5, 10_state.md section 6, 10_state.md section 7, 10_state.md section 8, 10_state.md section
9, 10_state.md section 10, 10_state.md section 11, 10_state.md section 12) -/
def Obligations.MoveFromCoprocessor0 : Prop :=
  ∀ (rt : Reg) (s : State), s.cop0Usable = true →
    (∀ st ca, st = s.cp0.status → ca = s.cp0.cause →
      ∀ c ∈ [(7#5, 0#3, 0#28 ++ s.cp0.hwrEna), (8#5, 0#3, s.cp0.badVAddr), (9#5, 0#3, s.cp0.count),
      (11#5, 0#3, s.cp0.compare),
      (12#5, 0#3, 0#3 ++ BitVec.ofBool st.cu0 ++ BitVec.ofBool st.rp ++ 0#1 ++ BitVec.ofBool st.re ++ 0#2 ++
        BitVec.ofBool st.bev ++ 0#1 ++ BitVec.ofBool st.sr ++ BitVec.ofBool st.nmi ++ 0#6 ++ st.ipl ++ 0#5 ++
        BitVec.ofBool st.um ++ 0#1 ++ BitVec.ofBool st.erl ++ BitVec.ofBool st.exl ++ BitVec.ofBool st.ie),
      (12#5, 1#3, 0#22 ++ s.cp0.vs ++ 0#5),
      (12#5, 2#3, 0#4 ++ s.cfg.shadowSets.hss ++ 0#6 ++ s.intReq.eicss ++ 0#4 ++ s.cp0.srs.ess ++ 0#4 ++ s.cp0.srs.pss ++
        0#4 ++ s.cp0.srs.css),
      (13#5, 0#3, BitVec.ofBool ca.bd ++ BitVec.ofBool ca.ti ++ ca.ce ++ BitVec.ofBool ca.dc ++ 0#3 ++
        BitVec.ofBool ca.iv ++ 0#10 ++ s.intReq.ripl ++ BitVec.ofBool ca.ip1 ++ BitVec.ofBool ca.ip0 ++ 0#1 ++
        ca.excCode ++ 0#2),
      (14#5, 0#3, s.cp0.epc), (15#5, 0#3, 0x000187#24 ++ Config.pridRev),
      (15#5, 1#3, 0b10#2 ++ s.cp0.ebase ++ 0#12),
      (16#5, 0#3, 1#1 ++ 0b010#3 ++ s.cp0.ku ++ 0#8 ++ 1#1 ++ 0#3 ++ 0b001#3 ++ 0b011#3 ++ 0#4 ++ s.cp0.k0),
      (16#5, 1#3, 0x80000006#32), (16#5, 2#3, 0x80000000#32), (16#5, 3#3, 0x00000060#32), (24#5, 0#3, s.cp0.depc),
      (30#5, 0#3, s.cp0.errorEpc), (31#5, 0#3, s.cp0.deSave)],
      Completes (.mfc0 rt c.1 c.2.1) s (WritesReg rt c.2.2 s)) ∧
    (s.cfg.shadowSets ≠ .one → Completes (.mfc0 rt 12#5 3#3) s (WritesReg rt s.cp0.srsMap s)) ∧
    (s.cfg.shadowSets = .one →
      ∃ v n, Completes (.mfc0 rt 12#5 3#3) s (WritesReg rt v { s with freeIdx := n })) ∧
    (∀ d c, d = s.cp0.dbg → c = d.causes → d.dm = true → Completes (.mfc0 rt 23#5 0#3) s (WritesReg rt
      (BitVec.ofBool d.dbd ++ 1#1 ++ 0#1 ++ BitVec.ofBool d.lsnm ++ BitVec.ofBool d.doze ++ BitVec.ofBool d.halt ++
        BitVec.ofBool d.countdm ++ BitVec.ofBool d.ibusep ++ 0#2 ++ BitVec.ofBool d.dbusep ++ BitVec.ofBool d.iexi ++
        0#2 ++ 0b010#3 ++ d.dexcCode ++ 0#1 ++ BitVec.ofBool d.sst ++ 0#1 ++ BitVec.ofBool c.dibimpr ++
        BitVec.ofBool c.dint ++ BitVec.ofBool c.dib ++ BitVec.ofBool c.ddbs ++ BitVec.ofBool c.ddbl ++
        BitVec.ofBool c.dbp ++ BitVec.ofBool c.dss) s)) ∧
    (s.cp0.dbg.dm = false → ∃ v n, v &&& 0x40038000#32 = 0x00010000#32 ∧
      Completes (.mfc0 rt 23#5 0#3) s (WritesReg rt v { s with freeIdx := n })) ∧
    (s.cfg.hasTrace = true →
      Completes (.mfc0 rt 23#5 1#3) s (WritesReg rt s.cp0.traceControl s) ∧
      (s.cp0.tcbLoaded = true → Completes (.mfc0 rt 23#5 2#3) s (WritesReg rt (0#25 ++ 0b10#2 ++ s.cp0.tcb) s)) ∧
      (s.cp0.tcbLoaded = false → ∃ v n, v &&& 0xFFFFFFE0#32 = 0x00000040#32 ∧
        Completes (.mfc0 rt 23#5 2#3) s (WritesReg rt v { s with freeIdx := n })) ∧
      Completes (.mfc0 rt 23#5 3#3) s (WritesReg rt s.cp0.userTraceData s) ∧
      Completes (.mfc0 rt 23#5 4#3) s (WritesReg rt s.cp0.traceBPC s)) ∧
    (s.cfg.hasComplexBreak = true →
      Completes (.mfc0 rt 23#5 5#3) s (WritesReg rt (1#1 ++ 0#27 ++ s.cp0.debug2) s)) ∧
    ∀ rd sel, cp0RegOf s.cfg rd sel = .reserved →
      ∃ v n, Completes (.mfc0 rt rd sel) s (WritesReg rt v { s with freeIdx := n })

/-- Where Coprocessor 0 is usable, MTC0 writes the writable fields of its register and no other: the read-only
registers and reserved registers keep their values; Status.SR and NMI can only be cleared; a write of Compare
clears Cause.TI, a write of Count that equals Compare sets it; of Cause only DC, IV, IP1 and IP0 change; EPC,
DEPC and ErrorEPC take all 32 bits; SRSMap on a core with shadow sets; Debug in Debug mode (LSNM, COUNTDM, IEXI
and SST are written, IBUSEP and DBUSEP can only be set: that a written 0 keeps them is the choice of the model,
log entry 18); TraceControl, UserTraceData and TraceBPC with HasTrace, where TraceControl2 ignores the write;
with HasComplexBreak Debug2 ignores it. No general register, no byte of memory and nothing else changes but the
hazards created. (44_coprocessor.md section 1, 10_state.md section 3, 10_state.md section 4, 10_state.md section
5, 10_state.md section 6, 10_state.md section 7, 10_state.md section 8, 10_state.md section 9, 10_state.md
section 10, 10_state.md section 11, section 12, 60_exceptions.md section 6, log entry 18) -/
def Obligations.MoveToCoprocessor0 : Prop :=
  ∀ (rt : Reg) (s : State), s.cop0Usable = true →
    (Completes (.mtc0 rt 7#5 0#3) s fun t => t.cp0 = { s.cp0 with hwrEna := (s.reg rt).extractLsb' 0 4 } ∧ SameRegs s t ∧ Cp0Frame s t) ∧
    (∀ c ∈ [(8#5, 0#3), (15#5, 0#3), (16#5, 1#3), (16#5, 2#3), (16#5, 3#3)],
      Completes (.mtc0 rt c.1 c.2) s fun t => t.cp0 = s.cp0 ∧ SameRegs s t ∧ Cp0Frame s t) ∧
    (∀ rd sel, cp0RegOf s.cfg rd sel = .reserved →
      Completes (.mtc0 rt rd sel) s fun t => t.cp0 = s.cp0 ∧ SameRegs s t ∧ Cp0Frame s t) ∧
    (Completes (.mtc0 rt 9#5 0#3) s fun t => t.cp0 = { s.cp0 with count := (s.reg rt), cause := { s.cp0.cause with ti := s.cp0.cause.ti || decide ((s.reg rt) = s.cp0.compare) } } ∧ SameRegs s t ∧ Cp0Frame s t) ∧
    (Completes (.mtc0 rt 11#5 0#3) s fun t => t.cp0 = { s.cp0 with compare := (s.reg rt), cause := { s.cp0.cause with ti := false } } ∧ SameRegs s t ∧ Cp0Frame s t) ∧
    ((s.reg rt).getLsbD 2 = false ∨ 0x80000000 ≤ s.pc.toNat → Completes (.mtc0 rt 12#5 0#3) s fun t =>
      (∃ st, t.cp0 = { s.cp0 with status := st }) ∧
      t.cp0Word .status = ((s.reg rt) &&& 0x1A401C17#32) ||| (s.cp0Word .status &&& (s.reg rt) &&& 0x00180000#32) ∧
      SameRegs s t ∧ Cp0Frame s t) ∧
    (legalSpacing ((s.reg rt).extractLsb' 5 5) = true → Completes (.mtc0 rt 12#5 1#3) s fun t => t.cp0 = { s.cp0 with vs := (s.reg rt).extractLsb' 5 5 } ∧ SameRegs s t ∧ Cp0Frame s t) ∧
    (((s.reg rt).extractLsb' 12 4).toNat ≤ s.cfg.shadowSets.hss.toNat → ((s.reg rt).extractLsb' 6 4).toNat ≤ s.cfg.shadowSets.hss.toNat → Completes (.mtc0 rt 12#5 2#3) s fun t => t.cp0 = { s.cp0 with
      srs := { s.cp0.srs with ess := (s.reg rt).extractLsb' 12 2, pss := (s.reg rt).extractLsb' 6 2 } } ∧ SameRegs s t ∧ Cp0Frame s t) ∧
    (Completes (.mtc0 rt 13#5 0#3) s fun t => (∃ ca, t.cp0 = { s.cp0 with cause := ca }) ∧
      t.cp0Word .cause = ((s.reg rt) &&& 0x08800300#32) ||| (s.cp0Word .cause &&& 0xF77FFCFF#32) ∧
      SameRegs s t ∧ Cp0Frame s t) ∧
    (Completes (.mtc0 rt 14#5 0#3) s fun t => t.cp0 = { s.cp0 with epc := (s.reg rt) } ∧ SameRegs s t ∧ Cp0Frame s t) ∧
    (s.cp0.status.bev = true ∨ (s.reg rt).extractLsb' 12 18 = s.cp0.ebase → Completes (.mtc0 rt 15#5 1#3) s fun t => t.cp0 = { s.cp0 with ebase := (s.reg rt).extractLsb' 12 18 } ∧ SameRegs s t ∧ Cp0Frame s t) ∧
    (legalCoherency ((s.reg rt).extractLsb' 25 3) = true → legalCoherency ((s.reg rt).extractLsb' 0 3) = true → Completes (.mtc0 rt 16#5 0#3) s fun t => t.cp0 = { s.cp0 with ku := (s.reg rt).extractLsb' 25 3, k0 := (s.reg rt).extractLsb' 0 3 } ∧ SameRegs s t ∧ Cp0Frame s t) ∧
    (s.cfg.shadowSets ≠ .one → (∀ k, k < 8 → ((s.reg rt).extractLsb' (4 * k) 4).toNat ≤ s.cfg.shadowSets.hss.toNat) → Completes (.mtc0 rt 12#5 3#3) s fun t => t.cp0 = { s.cp0 with srsMap := (s.reg rt) } ∧ SameRegs s t ∧ Cp0Frame s t) ∧
    (s.cp0.dbg.dm = true → Completes (.mtc0 rt 23#5 0#3) s fun t => t.cp0 = { s.cp0 with
      dbg := { s.cp0.dbg with
        lsnm := (s.reg rt).getLsbD 28
        countdm := (s.reg rt).getLsbD 25
        ibusep := s.cp0.dbg.ibusep || (s.reg rt).getLsbD 24
        dbusep := s.cp0.dbg.dbusep || (s.reg rt).getLsbD 21
        iexi := (s.reg rt).getLsbD 20
        sst := (s.reg rt).getLsbD 8 } } ∧ SameRegs s t ∧ Cp0Frame s t) ∧
    (s.cfg.hasTrace = true → Completes (.mtc0 rt 23#5 1#3) s fun t => t.cp0 = { s.cp0 with traceControl := ((s.reg rt) &&& 0xCFA0000F#32) ||| 0x00000010#32 } ∧ SameRegs s t ∧ Cp0Frame s t) ∧
    (s.cfg.hasTrace = true → Completes (.mtc0 rt 23#5 2#3) s fun t => t.cp0 = s.cp0 ∧ SameRegs s t ∧ Cp0Frame s t) ∧
    (s.cfg.hasTrace = true → Completes (.mtc0 rt 23#5 3#3) s fun t => t.cp0 = { s.cp0 with userTraceData := (s.reg rt) } ∧ SameRegs s t ∧ Cp0Frame s t) ∧
    (s.cfg.hasTrace = true → Completes (.mtc0 rt 23#5 4#3) s fun t => t.cp0 = { s.cp0 with traceBPC := (s.reg rt) &&& 0x8003803F#32 } ∧ SameRegs s t ∧ Cp0Frame s t) ∧
    (s.cfg.hasComplexBreak = true → Completes (.mtc0 rt 23#5 5#3) s fun t => t.cp0 = s.cp0 ∧ SameRegs s t ∧ Cp0Frame s t) ∧
    (Completes (.mtc0 rt 24#5 0#3) s fun t => t.cp0 = { s.cp0 with depc := (s.reg rt) } ∧ SameRegs s t ∧ Cp0Frame s t) ∧
    (Completes (.mtc0 rt 30#5 0#3) s fun t => t.cp0 = { s.cp0 with errorEpc := (s.reg rt) } ∧ SameRegs s t ∧ Cp0Frame s t) ∧
    (Completes (.mtc0 rt 31#5 0#3) s fun t => t.cp0 = { s.cp0 with deSave := (s.reg rt) } ∧ SameRegs s t ∧ Cp0Frame s t)

/-- Where Coprocessor 0 is usable, MTC0 is refused for a reserved IntCtl.VS, a set number above HSS in SRSCtl.ESS,
SRSCtl.PSS or SRSMap (a core without shadow sets has no SRSMap), a change of Ebase with BEV clear, a reserved
coherency attribute in Config.KU or K0, a Status value with ERL set written from kuseg (whether or not ERL was
already set: the reading of U6 in log entry 26), and any write of Debug outside Debug mode. (44_coprocessor.md
section 1, 93_implementation_defined.md U2 to U7, 93_implementation_defined.md U14, 10_state.md section 6, log
entry 26) -/
def Obligations.RefusedCoprocessor0Writes : Prop :=
  ∀ (rt : Reg) (s : State), s.cop0Usable = true →
    ((s.reg rt).extractLsb' 5 5 ∉ [0x00#5, 0x01#5, 0x02#5, 0x04#5, 0x08#5, 0x10#5] →
      exec (.mtc0 rt 12#5 1#3) s = .refused .reservedVectorSpacing) ∧
    (s.cfg.shadowSets.hss.toNat < ((s.reg rt).extractLsb' 12 4).toNat ∨ s.cfg.shadowSets.hss.toNat < ((s.reg rt).extractLsb' 6 4).toNat →
      exec (.mtc0 rt 12#5 2#3) s = .refused .shadowSetAboveHss) ∧
    (s.cfg.shadowSets = .one → exec (.mtc0 rt 12#5 3#3) s = .refused .srsMapAbsent) ∧
    (s.cfg.shadowSets ≠ .one → ∀ k, k < 8 → s.cfg.shadowSets.hss.toNat < ((s.reg rt).extractLsb' (4 * k) 4).toNat →
      exec (.mtc0 rt 12#5 3#3) s = .refused .shadowSetAboveHss) ∧
    (s.cp0.status.bev = false → (s.reg rt).extractLsb' 12 18 ≠ s.cp0.ebase →
      exec (.mtc0 rt 15#5 1#3) s = .refused .ebaseWithoutBev) ∧
    ((s.reg rt).extractLsb' 25 3 ∉ [2#3, 3#3] ∨ (s.reg rt).extractLsb' 0 3 ∉ [2#3, 3#3] →
      exec (.mtc0 rt 16#5 0#3) s = .refused .reservedCoherency) ∧
    ((s.reg rt).getLsbD 2 = true → s.pc.toNat < 0x80000000 → exec (.mtc0 rt 12#5 0#3) s = .refused .erlInKuseg) ∧
    (s.cp0.dbg.dm = false → exec (.mtc0 rt 23#5 0#3) s = .refused .debugWriteOutsideDebugMode)

/-- Where Coprocessor 0 is usable: DI and EI write the old Status to rt and clear or set IE, in one step; RDPGPR
writes register rt of the previous set to rd of the current set; WRPGPR writes register rt of the current set to
rd of the previous set; r0 of every set reads 0 and is not written; nothing else changes, but that DI and EI
record the hazard on IE. An exception whose entry depends on a Coprocessor 0 write whose spacing is not over is
refused instead (R574). (R433, R434, R435, R436) -/
def Obligations.InterruptEnableAndSetMoves : Prop :=
  ∀ (rt rd : Reg) (s : State),
    decode (0b010000#6 ++ 0b01011#5 ++ rt ++ 0b01100#5 ++ 0#5 ++ 0b000000#6) = .instr (.di rt) ∧
    decode (0b010000#6 ++ 0b01011#5 ++ rt ++ 0b01100#5 ++ 0#5 ++ 0b100000#6) = .instr (.ei rt) ∧
    decode (0b010000#6 ++ 0b01010#5 ++ rt ++ rd ++ 0#5 ++ 0b000000#6) = .instr (.rdpgpr rt rd) ∧
    decode (0b010000#6 ++ 0b01110#5 ++ rt ++ rd ++ 0#5 ++ 0b000000#6) = .instr (.wrpgpr rt rd) ∧
    (s.cop0Usable = false → ∀ i ∈ [Instr.di rt, .ei rt, .rdpgpr rt rd, .wrpgpr rt rd],
      Takes (exec i s) (.cpu 0#2) s) ∧
    (s.cop0Usable = true →
      (Completes (.di rt) s fun t => OnlyReg s.cp0.srs.css rt (s.cp0Word .status) s t ∧
        t.cp0 = { s.cp0 with status := { s.cp0.status with ie := false } } ∧ Cp0Frame s t ∧
        (s.cp0.status.ie = true → ∃ h ∈ t.hazards, h.row = .ie ∧ h.left = 1 ∧ h.old.status.ie = true)) ∧
      (Completes (.ei rt) s fun t => OnlyReg s.cp0.srs.css rt (s.cp0Word .status) s t ∧
        t.cp0 = { s.cp0 with status := { s.cp0.status with ie := true } } ∧ Cp0Frame s t ∧
        (s.cp0.status.ie = false → ∃ h ∈ t.hazards, h.row = .ie ∧ h.left = 1 ∧ h.old.status.ie = false)) ∧
      Completes (.rdpgpr rt rd) s (WritesReg rd (s.regOf s.cp0.srs.pss rt) s) ∧
      Completes (.wrpgpr rt rd) s fun t => OnlyReg s.cp0.srs.pss rd (s.reg rt) s t ∧ SameAcc s t ∧ SystemSame s t ∧
        MovesOn s t ∧ t.codeWords = s.advance.codeWords)

/-- WAIT, where Coprocessor 0 is usable and outside a delay slot, moves on to the next instruction and waits there,
with no other change; while the core waits it executes nothing; a takeable interrupt (in MIPS32 mode, with no
single step due, its entry depending on no pending write) ends the wait and saves the address after the WAIT in
EPC; an NMI (in MIPS32 mode, with no single step due) and a reset (in MIPS32 mode, without EJTAGBOOT) end it too
and save that address in ErrorEPC, and execution goes on at 0xBFC00000; the environment may end the wait at any
moment. (The events are the model's, log entries 11 and 12.) (44_coprocessor.md section 4, 60_exceptions.md
section 4, 70_reset_and_hazards.md section 1, log entry 11, log entry 12) -/
def Obligations.WaitingForAnEvent : Prop :=
  ∀ (code : BitVec 19) (s : State), s.cop0Usable = true → s.delaySlot = none →
    ∃ t, exec (.wait code) s = .next t ∧ NoEffect { s with waiting := true } t ∧ t.pc = s.pc + 4#32 ∧
      ∀ u es, u = { t with schedule := es } →
        (∀ fs, es = .cpu :: fs → step u = .next { u with schedule := fs }) ∧
        (∀ fs, es = .wake :: fs → step u = .next { u with schedule := fs, waiting := false }) ∧
        (∀ fs, es = .interrupt :: fs → u.interruptTakeable = true → s.isaMode = false → singleStepDue u = false →
          entryHazard .int u.ticked = false → ∃ v, step u = .next v ∧ v.waiting = false ∧
          v.cp0.epc = (s.pc + 4#32).extractLsb' 1 31 ++ 0#1 ∧ v.cp0.cause.bd = false) ∧
        (∀ fs, es = .nmi :: fs → s.isaMode = false → singleStepDue u = false → ∃ v, step u = .next v ∧
          v.waiting = false ∧ v.pc = 0xBFC00000#32 ∧ v.cp0.errorEpc = (s.pc + 4#32).extractLsb' 1 31 ++ 0#1) ∧
        (∀ fs, es = .reset :: fs → s.isaMode = false → s.cfg.ejtagBoot = false → ∃ v, step u = .next v ∧
          v.waiting = false ∧ v.pc = 0xBFC00000#32 ∧ v.cp0.errorEpc = (s.pc + 4#32).extractLsb' 1 31 ++ 0#1)

/-- The core has no TLB: TLBR, TLBWI, TLBWR and TLBP, with the encodings of their rule, are refused where
Coprocessor 0 is usable and raise CpU with unit 0 where it is not. An exception whose entry depends on a
Coprocessor 0 write whose spacing is not over is refused instead (R574). (R440) -/
def Obligations.TlbInstructionsRefused : Prop :=
  decode 0x42000001#32 = .instr .tlbr ∧ decode 0x42000002#32 = .instr .tlbwi ∧ decode 0x42000006#32 = .instr .tlbwr ∧
    decode 0x42000008#32 = .instr .tlbp ∧
    ∀ (s : State), ∀ i ∈ [Instr.tlbr, .tlbwi, .tlbwr, .tlbp],
      (s.cop0Usable = true → exec i s = .refused .noTlb) ∧
      (s.cop0Usable = false → Takes (exec i s) (.cpu 0#2) s)

/-- After an MTC0, from a state with no hazard pending, no instruction in the third place after it sees a hazard,
nor one after an EHB in the first place. Within the spacings of Table 2-1 (each step of the scoreboard comes
before its instruction): any register: where its word changed, an MFC0 of it in the first or second place is
refused (where Coprocessor 0 is usable); CU0: where it changed and the core is then in User mode, every word
with opcode COP0 or CACHE in the first place is refused, and in the second, where the mode is as before the
MTC0, none sees the change; EPC, ErrorEPC and DEPC: where the one that ERET, or DERET in Debug mode, would read
changed, it is refused in the first place and sees no hazard in the second; Status: with CU0 unchanged ERET sees
nothing in the first place; PSS: where it changed, RDPGPR and WRPGPR are refused in the first place and see no
hazard in the second, and an ERET that would copy it is refused in both; IE: where it was cleared, an interrupt
that is otherwise takeable is still possible in the first place and not in the second; BEV: where it changed
outside Debug mode, SYSCALL is refused in the first two places and takes Sys in the third. That only a change
creates a hazard is the model's reading (log entry 39); what instructions and exception entries see is log entry
15, what an interrupt sees log entry 14. (70_reset_and_hazards.md section 3, 43_miscellaneous.md section 4, log
entry 14, log entry 15, log entry 39) -/
def Obligations.HazardOfACoprocessor0Write : Prop :=
  ∀ (rt rt' rd rd' : Reg) (sel : BitVec 3) (s t : State), s.hazards = [] → s.cop0Usable = true →
    exec (.mtc0 rt rd sel) s = .next t →
    (∀ i, hazardSeen i t.ticked.ticked.ticked = false) ∧
    (∀ u, exec .ehb t.ticked = .next u → ∀ i, hazardSeen i u.ticked = false) ∧
    (t.cop0Usable = true → s.cp0Word (cp0RegOf s.cfg rd sel) ≠ t.cp0Word (cp0RegOf s.cfg rd sel) →
      runDecoded (.instr (.mfc0 rt' rd sel)) t.ticked = .refused .executionHazard ∧
      runDecoded (.instr (.mfc0 rt' rd sel)) t.ticked.ticked = .refused .executionHazard) ∧
    (s.cp0.status.cu0 ≠ t.cp0.status.cu0 → t.userMode = true →
      ∀ w : Word, opcodeOf w = 0x10#6 ∨ opcodeOf w = 0x2F#6 → runDecoded (decode w) t.ticked = .refused .executionHazard) ∧
    (t.userMode = s.userMode → cop0Hazard t.ticked.ticked = false) ∧
    (t.cop0Usable = true →
      (t.cp0.status.erl = false ∧ s.cp0.epc ≠ t.cp0.epc) ∨ (t.cp0.status.erl = true ∧ s.cp0.errorEpc ≠ t.cp0.errorEpc) →
      runDecoded (.instr .eret) t.ticked = .refused .executionHazard ∧ hazardSeen .eret t.ticked.ticked = false) ∧
    (t.cop0Usable = true → t.cp0.dbg.dm = true → s.cp0.depc ≠ t.cp0.depc →
      runDecoded (.instr .deret) t.ticked = .refused .executionHazard ∧ hazardSeen .deret t.ticked.ticked = false) ∧
    (cp0RegOf s.cfg rd sel = .status → s.cp0.status.cu0 = t.cp0.status.cu0 → hazardSeen .eret t.ticked = false) ∧
    (t.cop0Usable = true → s.cp0.srs.pss ≠ t.cp0.srs.pss →
      (∀ i ∈ [Instr.rdpgpr rt' rd', .wrpgpr rt' rd'],
        runDecoded (.instr i) t.ticked = .refused .executionHazard ∧ hazardSeen i t.ticked.ticked = false) ∧
      (t.cp0.status.erl = false → t.cp0.status.bev = false →
        runDecoded (.instr .eret) t.ticked = .refused .executionHazard ∧
        runDecoded (.instr .eret) t.ticked.ticked = .refused .executionHazard)) ∧
    (s.cp0.status.ie = true → t.cp0.status.ie = false →
      takeableUnder t.intReq { t.cp0 with status := { t.cp0.status with ie := true } } = true →
      t.interruptPossible = true ∧ t.ticked.interruptPossible = false) ∧
    ∀ code, s.cp0.dbg.dm = false →
      (s.cp0.status.bev ≠ t.cp0.status.bev →
        runDecoded (.instr (.syscall code)) t.ticked = .refused .executionHazard ∧
        runDecoded (.instr (.syscall code)) t.ticked.ticked = .refused .executionHazard) ∧
      runDecoded (.instr (.syscall code)) t.ticked.ticked.ticked = .next (raise .sys t)

/-- In a state that meets the invariant (the map holds no peripheral register at the physical addresses useg
reaches), in User mode no load or store that passes its checks and no fetch from useg finds a peripheral
register, and an instruction that answers a next state leaves every peripheral register unchanged. (20_memory.md
section 3, 60_exceptions.md section 5) -/
def Obligations.UserModeReachesNoPeripheral : Prop :=
  ∀ s : State, s.Inv → s.userMode = true →
    (∀ n va pa, AccessOk n va s pa →
      (loadTarget s.cfg (wordAddr pa)).isDevice = false ∧ (storeTarget s.cfg (wordAddr pa)).isDevice = false) ∧
    (s.pc.msb = false → (fetchTarget s.cfg (wordAddr (translate s.cp0.status.erl s.pc))).isDevice = false) ∧
    ∀ i t, exec i s = .next t → t.devRegs = s.devRegs
end

