-- ==== Sys2Proof/Laws/Encode.lean ====
section
/-! SUPPORT. Sys2Proof/Laws/Encode.lean: the fields of an encoded word, and a word as its fields
(30_encoding.md R181 to R185). -/

namespace Sys2Proof

/-! ## R-type words (R184) -/

@[simp] theorem opcodeOf_encR (op : BitVec 6) (rs rt rd : Reg) (sa : BitVec 5) (fn : BitVec 6) :
    opcodeOf (encR op rs rt rd sa fn) = op := by
  unfold opcodeOf encR
  iterate 5 rw [BitVec.extractLsb'_append_eq_of_le (by decide)]
  exact BitVec.extractLsb'_eq_self

@[simp] theorem rsOf_encR (op : BitVec 6) (rs rt rd : Reg) (sa : BitVec 5) (fn : BitVec 6) :
    rsOf (encR op rs rt rd sa fn) = rs := by
  unfold rsOf encR
  iterate 4 rw [BitVec.extractLsb'_append_eq_of_le (by decide)]
  rw [BitVec.extractLsb'_append_eq_of_add_le (by decide)]
  exact BitVec.extractLsb'_eq_self

@[simp] theorem rtOf_encR (op : BitVec 6) (rs rt rd : Reg) (sa : BitVec 5) (fn : BitVec 6) :
    rtOf (encR op rs rt rd sa fn) = rt := by
  unfold rtOf encR
  iterate 3 rw [BitVec.extractLsb'_append_eq_of_le (by decide)]
  rw [BitVec.extractLsb'_append_eq_of_add_le (by decide)]
  exact BitVec.extractLsb'_eq_self

@[simp] theorem rdOf_encR (op : BitVec 6) (rs rt rd : Reg) (sa : BitVec 5) (fn : BitVec 6) :
    rdOf (encR op rs rt rd sa fn) = rd := by
  unfold rdOf encR
  iterate 2 rw [BitVec.extractLsb'_append_eq_of_le (by decide)]
  rw [BitVec.extractLsb'_append_eq_of_add_le (by decide)]
  exact BitVec.extractLsb'_eq_self

@[simp] theorem saOf_encR (op : BitVec 6) (rs rt rd : Reg) (sa : BitVec 5) (fn : BitVec 6) :
    saOf (encR op rs rt rd sa fn) = sa := by
  unfold saOf encR
  rw [BitVec.extractLsb'_append_eq_of_le (by decide)]
  rw [BitVec.extractLsb'_append_eq_of_add_le (by decide)]
  exact BitVec.extractLsb'_eq_self

@[simp] theorem functOf_encR (op : BitVec 6) (rs rt rd : Reg) (sa : BitVec 5) (fn : BitVec 6) :
    functOf (encR op rs rt rd sa fn) = fn := by
  unfold functOf encR
  rw [BitVec.extractLsb'_append_eq_of_add_le (by decide)]
  exact BitVec.extractLsb'_eq_self

@[simp] theorem coOf_encR (op : BitVec 6) (rs rt rd : Reg) (sa : BitVec 5) (fn : BitVec 6) :
    coOf (encR op rs rt rd sa fn) = rs.extractLsb' 4 1 := by
  unfold coOf encR
  iterate 4 rw [BitVec.extractLsb'_append_eq_of_le (by decide)]
  rw [BitVec.extractLsb'_append_eq_of_add_le (by decide)]

/-- Every word is its fields. -/
theorem encR_fields (w : Word) : encR (opcodeOf w) (rsOf w) (rtOf w) (rdOf w) (saOf w) (functOf w) = w := by
  unfold encR opcodeOf rsOf rtOf rdOf saOf functOf
  iterate 5 rw [BitVec.extractLsb'_append_extractLsb'_eq_extractLsb' (by decide)]
  exact BitVec.extractLsb'_eq_self

/-! ## I-type words (R182) -/

@[simp] theorem opcodeOf_encI (op : BitVec 6) (rs rt : Reg) (imm : BitVec 16) :
    opcodeOf (encI op rs rt imm) = op := by
  unfold opcodeOf encI
  iterate 3 rw [BitVec.extractLsb'_append_eq_of_le (by decide)]
  exact BitVec.extractLsb'_eq_self

@[simp] theorem rsOf_encI (op : BitVec 6) (rs rt : Reg) (imm : BitVec 16) :
    rsOf (encI op rs rt imm) = rs := by
  unfold rsOf encI
  iterate 2 rw [BitVec.extractLsb'_append_eq_of_le (by decide)]
  rw [BitVec.extractLsb'_append_eq_of_add_le (by decide)]
  exact BitVec.extractLsb'_eq_self

@[simp] theorem rtOf_encI (op : BitVec 6) (rs rt : Reg) (imm : BitVec 16) :
    rtOf (encI op rs rt imm) = rt := by
  unfold rtOf encI
  rw [BitVec.extractLsb'_append_eq_of_le (by decide)]
  rw [BitVec.extractLsb'_append_eq_of_add_le (by decide)]
  exact BitVec.extractLsb'_eq_self

@[simp] theorem immOf_encI (op : BitVec 6) (rs rt : Reg) (imm : BitVec 16) :
    immOf (encI op rs rt imm) = imm := by
  unfold immOf encI
  rw [BitVec.extractLsb'_append_eq_of_add_le (by decide)]
  exact BitVec.extractLsb'_eq_self

@[simp] theorem coOf_encI (op : BitVec 6) (rs rt : Reg) (imm : BitVec 16) :
    coOf (encI op rs rt imm) = rs.extractLsb' 4 1 := by
  unfold coOf encI
  iterate 2 rw [BitVec.extractLsb'_append_eq_of_le (by decide)]
  rw [BitVec.extractLsb'_append_eq_of_add_le (by decide)]

/-- Every word is its fields. -/
theorem encI_fields (w : Word) : encI (opcodeOf w) (rsOf w) (rtOf w) (immOf w) = w := by
  unfold encI opcodeOf rsOf rtOf immOf
  iterate 3 rw [BitVec.extractLsb'_append_extractLsb'_eq_extractLsb' (by decide)]
  exact BitVec.extractLsb'_eq_self

/-! ## J-type words (R183) -/

@[simp] theorem opcodeOf_encJ (op : BitVec 6) (index : BitVec 26) :
    opcodeOf (encJ op index) = op := by
  unfold opcodeOf encJ
  rw [BitVec.extractLsb'_append_eq_of_le (by decide)]
  exact BitVec.extractLsb'_eq_self

@[simp] theorem indexOf_encJ (op : BitVec 6) (index : BitVec 26) :
    indexOf (encJ op index) = index := by
  unfold indexOf encJ
  rw [BitVec.extractLsb'_append_eq_of_add_le (by decide)]
  exact BitVec.extractLsb'_eq_self

/-- Every word is its fields. -/
theorem encJ_fields (w : Word) : encJ (opcodeOf w) (indexOf w) = w := by
  unfold encJ opcodeOf indexOf
  rw [BitVec.extractLsb'_append_extractLsb'_eq_extractLsb' (by decide)]
  exact BitVec.extractLsb'_eq_self

/-! ## SYSCALL, BREAK and SDBBP words (R185) -/

@[simp] theorem opcodeOf_encCode (op : BitVec 6) (code : BitVec 20) (fn : BitVec 6) :
    opcodeOf (encCode op code fn) = op := by
  unfold opcodeOf encCode
  iterate 2 rw [BitVec.extractLsb'_append_eq_of_le (by decide)]
  exact BitVec.extractLsb'_eq_self

@[simp] theorem codeOf_encCode (op : BitVec 6) (code : BitVec 20) (fn : BitVec 6) :
    codeOf (encCode op code fn) = code := by
  unfold codeOf encCode
  rw [BitVec.extractLsb'_append_eq_of_le (by decide)]
  rw [BitVec.extractLsb'_append_eq_of_add_le (by decide)]
  exact BitVec.extractLsb'_eq_self

@[simp] theorem functOf_encCode (op : BitVec 6) (code : BitVec 20) (fn : BitVec 6) :
    functOf (encCode op code fn) = fn := by
  unfold functOf encCode
  rw [BitVec.extractLsb'_append_eq_of_add_le (by decide)]
  exact BitVec.extractLsb'_eq_self

/-- Every word is its fields. -/
theorem encCode_fields (w : Word) : encCode (opcodeOf w) (codeOf w) (functOf w) = w := by
  unfold encCode opcodeOf codeOf functOf
  iterate 2 rw [BitVec.extractLsb'_append_extractLsb'_eq_extractLsb' (by decide)]
  exact BitVec.extractLsb'_eq_self

/-! ## Register trap words (R185) -/

@[simp] theorem opcodeOf_encTrap (rs rt : Reg) (code : BitVec 10) (fn : BitVec 6) :
    opcodeOf (encTrap rs rt code fn) = 0x00#6 := by
  unfold opcodeOf encTrap
  iterate 4 rw [BitVec.extractLsb'_append_eq_of_le (by decide)]
  exact BitVec.extractLsb'_eq_self

@[simp] theorem rsOf_encTrap (rs rt : Reg) (code : BitVec 10) (fn : BitVec 6) :
    rsOf (encTrap rs rt code fn) = rs := by
  unfold rsOf encTrap
  iterate 3 rw [BitVec.extractLsb'_append_eq_of_le (by decide)]
  rw [BitVec.extractLsb'_append_eq_of_add_le (by decide)]
  exact BitVec.extractLsb'_eq_self

@[simp] theorem rtOf_encTrap (rs rt : Reg) (code : BitVec 10) (fn : BitVec 6) :
    rtOf (encTrap rs rt code fn) = rt := by
  unfold rtOf encTrap
  iterate 2 rw [BitVec.extractLsb'_append_eq_of_le (by decide)]
  rw [BitVec.extractLsb'_append_eq_of_add_le (by decide)]
  exact BitVec.extractLsb'_eq_self

@[simp] theorem trapCodeOf_encTrap (rs rt : Reg) (code : BitVec 10) (fn : BitVec 6) :
    trapCodeOf (encTrap rs rt code fn) = code := by
  unfold trapCodeOf encTrap
  rw [BitVec.extractLsb'_append_eq_of_le (by decide)]
  rw [BitVec.extractLsb'_append_eq_of_add_le (by decide)]
  exact BitVec.extractLsb'_eq_self

@[simp] theorem functOf_encTrap (rs rt : Reg) (code : BitVec 10) (fn : BitVec 6) :
    functOf (encTrap rs rt code fn) = fn := by
  unfold functOf encTrap
  rw [BitVec.extractLsb'_append_eq_of_add_le (by decide)]
  exact BitVec.extractLsb'_eq_self

/-! ## Coprocessor 0 words with `CO` = 1 (R194) -/

@[simp] theorem opcodeOf_encCo (code : BitVec 19) (fn : BitVec 6) :
    opcodeOf (encCo code fn) = 0x10#6 := by
  unfold opcodeOf encCo
  iterate 3 rw [BitVec.extractLsb'_append_eq_of_le (by decide)]
  exact BitVec.extractLsb'_eq_self

@[simp] theorem coOf_encCo (code : BitVec 19) (fn : BitVec 6) :
    coOf (encCo code fn) = 1#1 := by
  unfold coOf encCo
  iterate 2 rw [BitVec.extractLsb'_append_eq_of_le (by decide)]
  rw [BitVec.extractLsb'_append_eq_of_add_le (by decide)]
  exact BitVec.extractLsb'_eq_self

@[simp] theorem waitCodeOf_encCo (code : BitVec 19) (fn : BitVec 6) :
    waitCodeOf (encCo code fn) = code := by
  unfold waitCodeOf encCo
  rw [BitVec.extractLsb'_append_eq_of_le (by decide)]
  rw [BitVec.extractLsb'_append_eq_of_add_le (by decide)]
  exact BitVec.extractLsb'_eq_self

@[simp] theorem functOf_encCo (code : BitVec 19) (fn : BitVec 6) :
    functOf (encCo code fn) = fn := by
  unfold functOf encCo
  rw [BitVec.extractLsb'_append_eq_of_add_le (by decide)]
  exact BitVec.extractLsb'_eq_self

/-! ## MFC0 and MTC0 words (R185) -/

@[simp] theorem opcodeOf_encSel (rs rt rd : Reg) (sel : BitVec 3) :
    opcodeOf (encSel rs rt rd sel) = 0x10#6 := by
  unfold opcodeOf encSel
  iterate 5 rw [BitVec.extractLsb'_append_eq_of_le (by decide)]
  exact BitVec.extractLsb'_eq_self

@[simp] theorem rsOf_encSel (rs rt rd : Reg) (sel : BitVec 3) :
    rsOf (encSel rs rt rd sel) = rs := by
  unfold rsOf encSel
  iterate 4 rw [BitVec.extractLsb'_append_eq_of_le (by decide)]
  rw [BitVec.extractLsb'_append_eq_of_add_le (by decide)]
  exact BitVec.extractLsb'_eq_self

@[simp] theorem rtOf_encSel (rs rt rd : Reg) (sel : BitVec 3) :
    rtOf (encSel rs rt rd sel) = rt := by
  unfold rtOf encSel
  iterate 3 rw [BitVec.extractLsb'_append_eq_of_le (by decide)]
  rw [BitVec.extractLsb'_append_eq_of_add_le (by decide)]
  exact BitVec.extractLsb'_eq_self

@[simp] theorem rdOf_encSel (rs rt rd : Reg) (sel : BitVec 3) :
    rdOf (encSel rs rt rd sel) = rd := by
  unfold rdOf encSel
  iterate 2 rw [BitVec.extractLsb'_append_eq_of_le (by decide)]
  rw [BitVec.extractLsb'_append_eq_of_add_le (by decide)]
  exact BitVec.extractLsb'_eq_self

@[simp] theorem selZeroOf_encSel (rs rt rd : Reg) (sel : BitVec 3) :
    selZeroOf (encSel rs rt rd sel) = 0#8 := by
  unfold selZeroOf encSel
  rw [BitVec.extractLsb'_append_eq_of_le (by decide)]
  rw [BitVec.extractLsb'_append_eq_of_add_le (by decide)]
  exact BitVec.extractLsb'_eq_self

@[simp] theorem selOf_encSel (rs rt rd : Reg) (sel : BitVec 3) :
    selOf (encSel rs rt rd sel) = sel := by
  unfold selOf encSel
  rw [BitVec.extractLsb'_append_eq_of_add_le (by decide)]
  exact BitVec.extractLsb'_eq_self

@[simp] theorem coOf_encSel (rs rt rd : Reg) (sel : BitVec 3) :
    coOf (encSel rs rt rd sel) = rs.extractLsb' 4 1 := by
  unfold coOf encSel
  iterate 4 rw [BitVec.extractLsb'_append_eq_of_le (by decide)]
  rw [BitVec.extractLsb'_append_eq_of_add_le (by decide)]

/-! ## MOVCI words (43_miscellaneous.md R405) -/

@[simp] theorem opcodeOf_encMovci (rs : Reg) (cc : BitVec 3) (b17 tf : BitVec 1) (rd : Reg) (low : BitVec 5) :
    opcodeOf (encMovci rs cc b17 tf rd low) = 0x00#6 := by
  unfold opcodeOf encMovci
  iterate 7 rw [BitVec.extractLsb'_append_eq_of_le (by decide)]
  exact BitVec.extractLsb'_eq_self

@[simp] theorem rsOf_encMovci (rs : Reg) (cc : BitVec 3) (b17 tf : BitVec 1) (rd : Reg) (low : BitVec 5) :
    rsOf (encMovci rs cc b17 tf rd low) = rs := by
  unfold rsOf encMovci
  iterate 6 rw [BitVec.extractLsb'_append_eq_of_le (by decide)]
  rw [BitVec.extractLsb'_append_eq_of_add_le (by decide)]
  exact BitVec.extractLsb'_eq_self

@[simp] theorem ccOf_encMovci (rs : Reg) (cc : BitVec 3) (b17 tf : BitVec 1) (rd : Reg) (low : BitVec 5) :
    ccOf (encMovci rs cc b17 tf rd low) = cc := by
  unfold ccOf encMovci
  iterate 5 rw [BitVec.extractLsb'_append_eq_of_le (by decide)]
  rw [BitVec.extractLsb'_append_eq_of_add_le (by decide)]
  exact BitVec.extractLsb'_eq_self

@[simp] theorem bit17Of_encMovci (rs : Reg) (cc : BitVec 3) (b17 tf : BitVec 1) (rd : Reg) (low : BitVec 5) :
    bit17Of (encMovci rs cc b17 tf rd low) = b17 := by
  unfold bit17Of encMovci
  iterate 4 rw [BitVec.extractLsb'_append_eq_of_le (by decide)]
  rw [BitVec.extractLsb'_append_eq_of_add_le (by decide)]
  exact BitVec.extractLsb'_eq_self

@[simp] theorem tfOf_encMovci (rs : Reg) (cc : BitVec 3) (b17 tf : BitVec 1) (rd : Reg) (low : BitVec 5) :
    tfOf (encMovci rs cc b17 tf rd low) = tf := by
  unfold tfOf encMovci
  iterate 3 rw [BitVec.extractLsb'_append_eq_of_le (by decide)]
  rw [BitVec.extractLsb'_append_eq_of_add_le (by decide)]
  exact BitVec.extractLsb'_eq_self

@[simp] theorem rdOf_encMovci (rs : Reg) (cc : BitVec 3) (b17 tf : BitVec 1) (rd : Reg) (low : BitVec 5) :
    rdOf (encMovci rs cc b17 tf rd low) = rd := by
  unfold rdOf encMovci
  iterate 2 rw [BitVec.extractLsb'_append_eq_of_le (by decide)]
  rw [BitVec.extractLsb'_append_eq_of_add_le (by decide)]
  exact BitVec.extractLsb'_eq_self

@[simp] theorem saOf_encMovci (rs : Reg) (cc : BitVec 3) (b17 tf : BitVec 1) (rd : Reg) (low : BitVec 5) :
    saOf (encMovci rs cc b17 tf rd low) = low := by
  unfold saOf encMovci
  rw [BitVec.extractLsb'_append_eq_of_le (by decide)]
  rw [BitVec.extractLsb'_append_eq_of_add_le (by decide)]
  exact BitVec.extractLsb'_eq_self

@[simp] theorem functOf_encMovci (rs : Reg) (cc : BitVec 3) (b17 tf : BitVec 1) (rd : Reg) (low : BitVec 5) :
    functOf (encMovci rs cc b17 tf rd low) = 0x01#6 := by
  unfold functOf encMovci
  rw [BitVec.extractLsb'_append_eq_of_add_le (by decide)]
  exact BitVec.extractLsb'_eq_self

/-! ## Words of a given opcode as their fields -/

theorem encTrap_fields {w : Word} (h : opcodeOf w = 0x00#6) :
    encTrap (rsOf w) (rtOf w) (trapCodeOf w) (functOf w) = w := by
  unfold encTrap
  rw [← h]
  unfold opcodeOf rsOf rtOf trapCodeOf functOf
  iterate 4 rw [BitVec.extractLsb'_append_extractLsb'_eq_extractLsb' (by decide)]
  exact BitVec.extractLsb'_eq_self

theorem encCo_fields {w : Word} (h : opcodeOf w = 0x10#6) (hc : coOf w = 1#1) :
    encCo (waitCodeOf w) (functOf w) = w := by
  unfold encCo
  rw [← h, ← hc]
  unfold opcodeOf coOf waitCodeOf functOf
  iterate 3 rw [BitVec.extractLsb'_append_extractLsb'_eq_extractLsb' (by decide)]
  exact BitVec.extractLsb'_eq_self

theorem encSel_fields {w : Word} (h : opcodeOf w = 0x10#6) (hz : selZeroOf w = 0#8) :
    encSel (rsOf w) (rtOf w) (rdOf w) (selOf w) = w := by
  unfold encSel
  rw [← h, ← hz]
  unfold opcodeOf rsOf rtOf rdOf selZeroOf selOf
  iterate 5 rw [BitVec.extractLsb'_append_extractLsb'_eq_extractLsb' (by decide)]
  exact BitVec.extractLsb'_eq_self

theorem encMovci_fields {w : Word} (h : opcodeOf w = 0x00#6) (hf : functOf w = 0x01#6) :
    encMovci (rsOf w) (ccOf w) (bit17Of w) (tfOf w) (rdOf w) (saOf w) = w := by
  unfold encMovci
  rw [← h, ← hf]
  unfold opcodeOf rsOf ccOf bit17Of tfOf rdOf saOf functOf
  iterate 7 rw [BitVec.extractLsb'_append_extractLsb'_eq_extractLsb' (by decide)]
  exact BitVec.extractLsb'_eq_self

end Sys2Proof
end

