-- ==== Sys2Proof/Laws/Memory.lean ====
section
/-! SUPPORT. Sys2Proof/Laws/Memory.lean: reading back what was written, leaving the rest alone, and keeping the
canonical form, for sparse stores and for the memory operations over them. -/

namespace Sys2Proof.Machine

open Sys2Proof

/-! ## Reading a sparse store -/

theorem sparseGet_erase_self {α : Type} (d : α) (l : List (Nat × α)) (a : Nat) :
    sparseGet d (sparseErase l a) a = d := by
  induction l with
  | nil => rfl
  | cons c t ih =>
    obtain ⟨k, v⟩ := c
    by_cases h : k = a
    · subst h; simpa [sparseErase] using ih
    · have : (k != a) = true := by simpa using h
      simp only [sparseErase, List.filter_cons, this, if_true, sparseGet, h, if_false]
      exact ih

theorem sparseGet_erase_other {α : Type} (d : α) (l : List (Nat × α)) {a b : Nat} (h : b ≠ a) :
    sparseGet d (sparseErase l a) b = sparseGet d l b := by
  induction l with
  | nil => rfl
  | cons c t ih =>
    obtain ⟨k, v⟩ := c
    by_cases hk : k = a
    · subst hk
      simp only [sparseErase, List.filter_cons, bne_self_eq_false, Bool.false_eq_true, if_false, sparseGet,
        Ne.symm h]
      exact ih
    · have : (k != a) = true := by simpa using hk
      simp only [sparseErase, List.filter_cons, this, if_true, sparseGet]
      split
      · rfl
      · exact ih

theorem sparseGet_place_other {α : Type} (d : α) (l : List (Nat × α)) {a b : Nat} (v : α) (h : b ≠ a) :
    sparseGet d (sparsePlace a v l) b = sparseGet d l b := by
  induction l with
  | nil => simp [sparsePlace, sparseGet, Ne.symm h]
  | cons c t ih =>
    obtain ⟨k, w⟩ := c
    simp only [sparsePlace]
    split
    · simp [sparseGet, Ne.symm h]
    · simp [sparseGet, ih]

theorem sparseGet_place_self {α : Type} (d : α) (l : List (Nat × α)) {a : Nat} (v : α) (h : ∀ c ∈ l, c.1 ≠ a) :
    sparseGet d (sparsePlace a v l) a = v := by
  induction l with
  | nil => simp [sparsePlace, sparseGet]
  | cons c t ih =>
    obtain ⟨k, w⟩ := c
    have hk : k ≠ a := h (k, w) (by simp)
    simp only [sparsePlace]
    split
    · simp [sparseGet]
    · simp only [sparseGet, hk, if_false]
      exact ih fun c hc => h c (by simp [hc])

theorem sparseErase_ne {α : Type} (l : List (Nat × α)) (a : Nat) : ∀ c ∈ sparseErase l a, c.1 ≠ a := by
  intro c hc
  simpa using (List.mem_filter.mp hc).2

/-- What was put is read back. -/
theorem sparseGet_put_self {α : Type} [DecidableEq α] (d : α) (l : List (Nat × α)) (a : Nat) (v : α) :
    sparseGet d (sparsePut d l a v) a = v := by
  unfold sparsePut
  split
  · next h => rw [sparseGet_erase_self, h]
  · exact sparseGet_place_self d _ v (sparseErase_ne l a)

/-- Every other key is left alone. -/
theorem sparseGet_put_other {α : Type} [DecidableEq α] (d : α) (l : List (Nat × α)) {a b : Nat} (v : α) (h : b ≠ a) :
    sparseGet d (sparsePut d l a v) b = sparseGet d l b := by
  unfold sparsePut
  split
  · exact sparseGet_erase_other d l h
  · rw [sparseGet_place_other d _ v h, sparseGet_erase_other d l h]

/-- Reading after a put, in one equation. -/
theorem sparseGet_put {α : Type} [DecidableEq α] (d : α) (l : List (Nat × α)) (a b : Nat) (v : α) :
    sparseGet d (sparsePut d l a v) b = if b = a then v else sparseGet d l b := by
  split
  · next h => rw [h, sparseGet_put_self]
  · next h => exact sparseGet_put_other d l v h

/-! ## The canonical form -/

theorem sparseCanonical_cons {α : Type} [DecidableEq α] (d : α) (k : Nat) (v : α) (t : List (Nat × α)) :
    sparseCanonical d ((k, v) :: t) = true ↔ v ≠ d ∧ (∀ c ∈ t, k < c.1) ∧ sparseCanonical d t = true := by
  simp [sparseCanonical, and_assoc]

/-- A canonical list filtered is canonical. -/
theorem sparseCanonical_filter {α : Type} [DecidableEq α] (d : α) (p : Nat × α → Bool) (l : List (Nat × α))
    (h : sparseCanonical d l = true) : sparseCanonical d (l.filter p) = true := by
  induction l with
  | nil => rfl
  | cons c t ih =>
    obtain ⟨k, v⟩ := c
    obtain ⟨hv, hk, ht⟩ := (sparseCanonical_cons d k v t).mp h
    by_cases hp : p (k, v) = true
    · rw [List.filter_cons_of_pos hp, sparseCanonical_cons]
      exact ⟨hv, fun c hc => hk c (List.mem_filter.mp hc).1, ih ht⟩
    · rw [List.filter_cons_of_neg hp]
      exact ih ht

theorem sparsePlace_mem {α : Type} (a : Nat) (v : α) (l : List (Nat × α)) (c : Nat × α)
    (h : c ∈ sparsePlace a v l) : c = (a, v) ∨ c ∈ l := by
  induction l with
  | nil => simpa [sparsePlace] using h
  | cons e t ih =>
    obtain ⟨k, w⟩ := e
    simp only [sparsePlace] at h
    split at h
    · simpa using h
    · rcases List.mem_cons.mp h with h | h
      · exact .inr (by simp [h])
      · rcases ih h with h | h
        · exact .inl h
        · exact .inr (by simp [h])

theorem sparseCanonical_place {α : Type} [DecidableEq α] (d : α) (a : Nat) (v : α) (l : List (Nat × α)) (hv : v ≠ d)
    (ha : ∀ c ∈ l, c.1 ≠ a) (h : sparseCanonical d l = true) : sparseCanonical d (sparsePlace a v l) = true := by
  induction l with
  | nil => simp [sparsePlace, sparseCanonical, hv]
  | cons e t ih =>
    obtain ⟨k, w⟩ := e
    obtain ⟨hw, hk, ht⟩ := (sparseCanonical_cons d k w t).mp h
    have hka : k ≠ a := ha (k, w) (by simp)
    simp only [sparsePlace]
    split
    · next hlt =>
      rw [sparseCanonical_cons]
      refine ⟨hv, fun c hc => ?_, h⟩
      rcases List.mem_cons.mp hc with rfl | hc
      · exact hlt
      · exact Nat.lt_trans hlt (hk c hc)
    · next hlt =>
      rw [sparseCanonical_cons]
      refine ⟨hw, fun c hc => ?_, ih (fun c hc => ha c (by simp [hc])) ht⟩
      rcases sparsePlace_mem a v t c hc with rfl | hc
      · simp only; omega
      · exact hk c hc

/-- Putting keeps the canonical form. -/
theorem sparseCanonical_put {α : Type} [DecidableEq α] (d : α) (l : List (Nat × α)) (a : Nat) (v : α)
    (h : sparseCanonical d l = true) : sparseCanonical d (sparsePut d l a v) = true := by
  unfold sparsePut
  split
  · exact sparseCanonical_filter d _ l h
  · next hv => exact sparseCanonical_place d a v _ hv (sparseErase_ne l a) (sparseCanonical_filter d _ l h)

/-! ## Bytes and words of memory -/

/-- Reading a byte after a write. -/
theorem readByte_writeByte (m : List Host.Cell) (a b : Nat) (v : Byte) :
    readByte (writeByte m a v) b = if b = a then v else readByte m b := sparseGet_put _ m a b v

/-- A byte write keeps the canonical form. -/
theorem writeByte_wf (m : List Host.Cell) (a : Nat) (v : Byte) (h : Memory.wf m = true) :
    Memory.wf (writeByte m a v) = true := sparseCanonical_put _ m a v h

/-- Writing lanes keeps the canonical form. -/
theorem writeLanes_wf (m : List Host.Cell) (wa : Nat) (en : BitVec 4) (w : Word) (h : Memory.wf m = true) :
    Memory.wf (writeLanes m wa en w) = true := by
  have step : ∀ k m, Memory.wf m = true → Memory.wf (writeLane en w wa m k) = true := by
    intro k m hm
    unfold writeLane
    split
    · exact writeByte_wf m _ _ hm
    · exact hm
  simp only [writeLanes, List.foldl_cons, List.foldl_nil]
  exact step 3 _ (step 2 _ (step 1 _ (step 0 _ h)))

theorem readByte_writeLane (m : List Host.Cell) (wa : Nat) (en : BitVec 4) (w : Word) (k a : Nat) :
    readByte (writeLane en w wa m k) a =
      if a = wa + k ∧ en.getLsbD k = true then byteOf w k else readByte m a := by
  unfold writeLane
  cases h : en.getLsbD k
  · simp
  · simp [readByte_writeByte]

/-- Reading a byte after writing lanes: the enabled lanes of the word, everything else as before. -/
theorem readByte_writeLanes (m : List Host.Cell) (wa : Nat) (en : BitVec 4) (w : Word) (a : Nat) :
    readByte (writeLanes m wa en w) a =
      if wa ≤ a ∧ a < wa + 4 ∧ en.getLsbD (a - wa) = true then byteOf w (a - wa) else readByte m a := by
  simp only [writeLanes, List.foldl_cons, List.foldl_nil, readByte_writeLane]
  by_cases h : wa ≤ a ∧ a < wa + 4
  · obtain ⟨k, hk, rfl⟩ : ∃ k, k < 4 ∧ a = wa + k := ⟨a - wa, by omega, by omega⟩
    have e : wa + k - wa = k := by omega
    rw [e]
    have : k = 0 ∨ k = 1 ∨ k = 2 ∨ k = 3 := by omega
    rcases this with rfl | rfl | rfl | rfl <;> simp
  · have h0 : a ≠ wa := by omega
    have h1 : a ≠ wa + 1 := by omega
    have h2 : a ≠ wa + 2 := by omega
    have h3 : a ≠ wa + 3 := by omega
    have hn : ¬(wa ≤ a ∧ a < wa + 4 ∧ en.getLsbD (a - wa) = true) := fun ⟨x, y, _⟩ => h ⟨x, y⟩
    simp [h0, h1, h2, h3, hn]

/-! ## Peripheral registers and marks on stored words -/

/-- Reading a peripheral register after a write. -/
theorem deviceGet_devicePut (l : List (Nat × Word)) (a b : Nat) (v : Word) :
    deviceGet (devicePut l a v) b = if b = a then v else deviceGet l b := sparseGet_put _ l a b v

/-- A device write keeps the canonical form. -/
theorem devicePut_canonical (l : List (Nat × Word)) (a : Nat) (v : Word) (h : sparseCanonical 0#32 l = true) :
    sparseCanonical 0#32 (devicePut l a v) = true := sparseCanonical_put _ l a v h

/-- A mark put on a word is read there, and every other word keeps its own. -/
theorem codeStateAt_markCode (l : List (Nat × CodeState)) (a : Nat) (c : CodeState) (b : Nat) :
    codeStateAt (markCode l a c) b = if b = a then c else codeStateAt l b := sparseGet_put _ l a b c

/-- SYNCI turns the mark stored of its word into synchronized, and changes no other mark. -/
theorem codeStateAt_syncCode (l : List (Nat × CodeState)) (a b : Nat) :
    codeStateAt (syncCode l a) b = if codeStateAt l b = .stored ∧ b = a then .synced else codeStateAt l b := by
  unfold syncCode
  split
  · next h =>
    rw [codeStateAt_markCode]
    by_cases hb : b = a
    · subst hb; simp [h]
    · simp [hb]
  · next h =>
    have : ¬(codeStateAt l b = .stored ∧ b = a) := fun ⟨hs, hb⟩ => h (hb ▸ hs)
    rw [if_neg this]

/-- After a barrier no word is marked synchronized. -/
theorem codeStateAt_settleCode_ne (l : List (Nat × CodeState)) (a : Nat) : codeStateAt (settleCode l) a ≠ .synced := by
  induction l with
  | nil => simp [settleCode, codeStateAt, sparseGet]
  | cons c t ih =>
    unfold settleCode codeStateAt at ih ⊢
    rw [List.filter_cons]
    split
    · next hc =>
      rw [sparseGet]
      split
      · simpa using hc
      · exact ih
    · exact ih

/-- A barrier keeps every mark that is not synchronized. -/
theorem codeStateAt_settleCode_keeps (l : List (Nat × CodeState)) {a : Nat} (h : codeStateAt l a ≠ .synced) :
    codeStateAt (settleCode l) a = codeStateAt l a := by
  induction l with
  | nil => rfl
  | cons c t ih =>
    unfold settleCode codeStateAt at ih ⊢
    unfold codeStateAt at h
    rw [List.filter_cons]
    rw [sparseGet] at h ⊢
    by_cases hk : c.1 = a
    · rw [if_pos hk] at h ⊢
      simp [h, sparseGet, hk]
    · rw [if_neg hk] at h ⊢
      split
      · rw [sparseGet, if_neg hk]; exact ih h
      · exact ih h

/-- A key below every listed one reads the default. -/
theorem sparseGet_below {α : Type} (d : α) (l : List (Nat × α)) {a : Nat} (h : ∀ c ∈ l, a < c.1) : sparseGet d l a = d := by
  induction l with
  | nil => rfl
  | cons c t ih =>
    have hc := h c (List.mem_cons_self ..)
    rw [sparseGet, if_neg (by omega)]
    exact ih fun x hx => h x (List.mem_cons_of_mem _ hx)

/-- A barrier removes a mark synchronized. -/
theorem codeStateAt_settleCode_synced {l : List (Nat × CodeState)} (hl : sparseCanonical CodeState.clean l = true) {a : Nat}
    (h : codeStateAt l a = .synced) : codeStateAt (settleCode l) a = .clean := by
  induction l with
  | nil => rfl
  | cons c t ih =>
    obtain ⟨k, v⟩ := c
    obtain ⟨-, below, rest⟩ := (sparseCanonical_cons _ k v t).mp hl
    unfold codeStateAt at h
    unfold settleCode codeStateAt at ih ⊢
    rw [sparseGet] at h
    rw [List.filter_cons]
    by_cases hk : k = a
    · subst hk
      rw [if_pos rfl] at h
      subst h
      exact sparseGet_below _ _ fun x hx => below x (List.mem_of_mem_filter hx)
    · rw [if_neg hk] at h
      split
      · rw [sparseGet, if_neg hk]; exact ih rest h
      · exact ih rest h

/-- In canonical form, a barrier removes every mark synchronized and keeps every other mark. -/
theorem codeStateAt_settleCode {l : List (Nat × CodeState)} (hl : sparseCanonical CodeState.clean l = true) (a : Nat) :
    codeStateAt (settleCode l) a = if codeStateAt l a = .synced then .clean else codeStateAt l a := by
  split
  · next h => exact codeStateAt_settleCode_synced hl h
  · next h => exact codeStateAt_settleCode_keeps l h

/-- A mark keeps the canonical form. -/
theorem markCode_canonical (l : List (Nat × CodeState)) (a : Nat) (c : CodeState)
    (h : sparseCanonical CodeState.clean l = true) : sparseCanonical CodeState.clean (markCode l a c) = true :=
  sparseCanonical_put _ l a c h

/-- SYNCI keeps the canonical form. -/
theorem syncCode_canonical (l : List (Nat × CodeState)) (a : Nat) (h : sparseCanonical CodeState.clean l = true) :
    sparseCanonical CodeState.clean (syncCode l a) = true := by
  unfold syncCode
  split
  · exact markCode_canonical l a _ h
  · exact h

/-- A barrier keeps the canonical form. -/
theorem settleCode_canonical (l : List (Nat × CodeState)) (h : sparseCanonical CodeState.clean l = true) :
    sparseCanonical CodeState.clean (settleCode l) = true := sparseCanonical_filter _ _ l h

/-- The word of a lane mask with every lane. -/
theorem laneMask_all : laneMask 0xF#4 = 0xFFFFFFFF#32 := by decide

end Sys2Proof.Machine
end

