-- ==== Sys2Proof/Laws/State.lean ====
section
/-! SUPPORT. Sys2Proof/Laws/State.lean: for each update of the state, one simp lemma per field: what the field is
after the update. No later proof needs to unfold an update. -/

namespace Sys2Proof.Machine

open Sys2Proof

/-! ### setRegOf -/

@[simp] theorem State.setRegOf_hi (s : State) (set : SetNum) (r : Reg) (v : Word) : (s.setRegOf set r v).hi = s.hi :=
  by unfold State.setRegOf; split <;> rfl
@[simp] theorem State.setRegOf_lo (s : State) (set : SetNum) (r : Reg) (v : Word) : (s.setRegOf set r v).lo = s.lo :=
  by unfold State.setRegOf; split <;> rfl
@[simp] theorem State.setRegOf_pc (s : State) (set : SetNum) (r : Reg) (v : Word) : (s.setRegOf set r v).pc = s.pc :=
  by unfold State.setRegOf; split <;> rfl
@[simp] theorem State.setRegOf_isaMode (s : State) (set : SetNum) (r : Reg) (v : Word) : (s.setRegOf set r v).isaMode = s.isaMode :=
  by unfold State.setRegOf; split <;> rfl
@[simp] theorem State.setRegOf_delaySlot (s : State) (set : SetNum) (r : Reg) (v : Word) : (s.setRegOf set r v).delaySlot = s.delaySlot :=
  by unfold State.setRegOf; split <;> rfl
@[simp] theorem State.setRegOf_llbit (s : State) (set : SetNum) (r : Reg) (v : Word) : (s.setRegOf set r v).llbit = s.llbit :=
  by unfold State.setRegOf; split <;> rfl
@[simp] theorem State.setRegOf_waiting (s : State) (set : SetNum) (r : Reg) (v : Word) : (s.setRegOf set r v).waiting = s.waiting :=
  by unfold State.setRegOf; split <;> rfl
@[simp] theorem State.setRegOf_cp0 (s : State) (set : SetNum) (r : Reg) (v : Word) : (s.setRegOf set r v).cp0 = s.cp0 :=
  by unfold State.setRegOf; split <;> rfl
@[simp] theorem State.setRegOf_mem (s : State) (set : SetNum) (r : Reg) (v : Word) : (s.setRegOf set r v).mem = s.mem :=
  by unfold State.setRegOf; split <;> rfl
@[simp] theorem State.setRegOf_devRegs (s : State) (set : SetNum) (r : Reg) (v : Word) : (s.setRegOf set r v).devRegs = s.devRegs :=
  by unfold State.setRegOf; split <;> rfl
@[simp] theorem State.setRegOf_codeWords (s : State) (set : SetNum) (r : Reg) (v : Word) : (s.setRegOf set r v).codeWords = s.codeWords :=
  by unfold State.setRegOf; split <;> rfl
@[simp] theorem State.setRegOf_hazards (s : State) (set : SetNum) (r : Reg) (v : Word) : (s.setRegOf set r v).hazards = s.hazards :=
  by unfold State.setRegOf; split <;> rfl
@[simp] theorem State.setRegOf_staleStatus (s : State) (set : SetNum) (r : Reg) (v : Word) : (s.setRegOf set r v).staleStatus = s.staleStatus :=
  by unfold State.setRegOf; split <;> rfl
@[simp] theorem State.setRegOf_intReq (s : State) (set : SetNum) (r : Reg) (v : Word) : (s.setRegOf set r v).intReq = s.intReq :=
  by unfold State.setRegOf; split <;> rfl
@[simp] theorem State.setRegOf_schedule (s : State) (set : SetNum) (r : Reg) (v : Word) : (s.setRegOf set r v).schedule = s.schedule :=
  by unfold State.setRegOf; split <;> rfl
@[simp] theorem State.setRegOf_freeIdx (s : State) (set : SetNum) (r : Reg) (v : Word) : (s.setRegOf set r v).freeIdx = s.freeIdx :=
  by unfold State.setRegOf; split <;> rfl
@[simp] theorem State.setRegOf_cfg (s : State) (set : SetNum) (r : Reg) (v : Word) : (s.setRegOf set r v).cfg = s.cfg :=
  by unfold State.setRegOf; split <;> rfl

/-! ### setReg -/

@[simp] theorem State.setReg_hi (s : State) (r : Reg) (v : Word) : (s.setReg r v).hi = s.hi := by simp [State.setReg]
@[simp] theorem State.setReg_lo (s : State) (r : Reg) (v : Word) : (s.setReg r v).lo = s.lo := by simp [State.setReg]
@[simp] theorem State.setReg_pc (s : State) (r : Reg) (v : Word) : (s.setReg r v).pc = s.pc := by simp [State.setReg]
@[simp] theorem State.setReg_isaMode (s : State) (r : Reg) (v : Word) : (s.setReg r v).isaMode = s.isaMode :=
  by simp [State.setReg]
@[simp] theorem State.setReg_delaySlot (s : State) (r : Reg) (v : Word) : (s.setReg r v).delaySlot = s.delaySlot :=
  by simp [State.setReg]
@[simp] theorem State.setReg_llbit (s : State) (r : Reg) (v : Word) : (s.setReg r v).llbit = s.llbit :=
  by simp [State.setReg]
@[simp] theorem State.setReg_waiting (s : State) (r : Reg) (v : Word) : (s.setReg r v).waiting = s.waiting :=
  by simp [State.setReg]
@[simp] theorem State.setReg_cp0 (s : State) (r : Reg) (v : Word) : (s.setReg r v).cp0 = s.cp0 :=
  by simp [State.setReg]
@[simp] theorem State.setReg_mem (s : State) (r : Reg) (v : Word) : (s.setReg r v).mem = s.mem :=
  by simp [State.setReg]
@[simp] theorem State.setReg_devRegs (s : State) (r : Reg) (v : Word) : (s.setReg r v).devRegs = s.devRegs :=
  by simp [State.setReg]
@[simp] theorem State.setReg_codeWords (s : State) (r : Reg) (v : Word) : (s.setReg r v).codeWords = s.codeWords :=
  by simp [State.setReg]
@[simp] theorem State.setReg_hazards (s : State) (r : Reg) (v : Word) : (s.setReg r v).hazards = s.hazards :=
  by simp [State.setReg]
@[simp] theorem State.setReg_staleStatus (s : State) (r : Reg) (v : Word) : (s.setReg r v).staleStatus = s.staleStatus :=
  by simp [State.setReg]
@[simp] theorem State.setReg_intReq (s : State) (r : Reg) (v : Word) : (s.setReg r v).intReq = s.intReq :=
  by simp [State.setReg]
@[simp] theorem State.setReg_schedule (s : State) (r : Reg) (v : Word) : (s.setReg r v).schedule = s.schedule :=
  by simp [State.setReg]
@[simp] theorem State.setReg_freeIdx (s : State) (r : Reg) (v : Word) : (s.setReg r v).freeIdx = s.freeIdx :=
  by simp [State.setReg]
@[simp] theorem State.setReg_cfg (s : State) (r : Reg) (v : Word) : (s.setReg r v).cfg = s.cfg :=
  by simp [State.setReg]

/-! ### setHiLo -/

@[simp] theorem State.setHiLo_gprs (s : State) (v : BitVec 64) : (s.setHiLo v).gprs = s.gprs := rfl
@[simp] theorem State.setHiLo_pc (s : State) (v : BitVec 64) : (s.setHiLo v).pc = s.pc := rfl
@[simp] theorem State.setHiLo_isaMode (s : State) (v : BitVec 64) : (s.setHiLo v).isaMode = s.isaMode := rfl
@[simp] theorem State.setHiLo_delaySlot (s : State) (v : BitVec 64) : (s.setHiLo v).delaySlot = s.delaySlot := rfl
@[simp] theorem State.setHiLo_llbit (s : State) (v : BitVec 64) : (s.setHiLo v).llbit = s.llbit := rfl
@[simp] theorem State.setHiLo_waiting (s : State) (v : BitVec 64) : (s.setHiLo v).waiting = s.waiting := rfl
@[simp] theorem State.setHiLo_cp0 (s : State) (v : BitVec 64) : (s.setHiLo v).cp0 = s.cp0 := rfl
@[simp] theorem State.setHiLo_mem (s : State) (v : BitVec 64) : (s.setHiLo v).mem = s.mem := rfl
@[simp] theorem State.setHiLo_devRegs (s : State) (v : BitVec 64) : (s.setHiLo v).devRegs = s.devRegs := rfl
@[simp] theorem State.setHiLo_codeWords (s : State) (v : BitVec 64) : (s.setHiLo v).codeWords = s.codeWords := rfl
@[simp] theorem State.setHiLo_hazards (s : State) (v : BitVec 64) : (s.setHiLo v).hazards = s.hazards := rfl
@[simp] theorem State.setHiLo_staleStatus (s : State) (v : BitVec 64) : (s.setHiLo v).staleStatus = s.staleStatus :=
  rfl
@[simp] theorem State.setHiLo_intReq (s : State) (v : BitVec 64) : (s.setHiLo v).intReq = s.intReq := rfl
@[simp] theorem State.setHiLo_schedule (s : State) (v : BitVec 64) : (s.setHiLo v).schedule = s.schedule := rfl
@[simp] theorem State.setHiLo_freeIdx (s : State) (v : BitVec 64) : (s.setHiLo v).freeIdx = s.freeIdx := rfl
@[simp] theorem State.setHiLo_cfg (s : State) (v : BitVec 64) : (s.setHiLo v).cfg = s.cfg := rfl

/-! ### drawn -/

@[simp] theorem State.drawn_gprs (s : State) (n : Nat) : (s.drawn n).gprs = s.gprs := rfl
@[simp] theorem State.drawn_hi (s : State) (n : Nat) : (s.drawn n).hi = s.hi := rfl
@[simp] theorem State.drawn_lo (s : State) (n : Nat) : (s.drawn n).lo = s.lo := rfl
@[simp] theorem State.drawn_pc (s : State) (n : Nat) : (s.drawn n).pc = s.pc := rfl
@[simp] theorem State.drawn_isaMode (s : State) (n : Nat) : (s.drawn n).isaMode = s.isaMode := rfl
@[simp] theorem State.drawn_delaySlot (s : State) (n : Nat) : (s.drawn n).delaySlot = s.delaySlot := rfl
@[simp] theorem State.drawn_llbit (s : State) (n : Nat) : (s.drawn n).llbit = s.llbit := rfl
@[simp] theorem State.drawn_waiting (s : State) (n : Nat) : (s.drawn n).waiting = s.waiting := rfl
@[simp] theorem State.drawn_cp0 (s : State) (n : Nat) : (s.drawn n).cp0 = s.cp0 := rfl
@[simp] theorem State.drawn_mem (s : State) (n : Nat) : (s.drawn n).mem = s.mem := rfl
@[simp] theorem State.drawn_devRegs (s : State) (n : Nat) : (s.drawn n).devRegs = s.devRegs := rfl
@[simp] theorem State.drawn_codeWords (s : State) (n : Nat) : (s.drawn n).codeWords = s.codeWords := rfl
@[simp] theorem State.drawn_hazards (s : State) (n : Nat) : (s.drawn n).hazards = s.hazards := rfl
@[simp] theorem State.drawn_staleStatus (s : State) (n : Nat) : (s.drawn n).staleStatus = s.staleStatus := rfl
@[simp] theorem State.drawn_intReq (s : State) (n : Nat) : (s.drawn n).intReq = s.intReq := rfl
@[simp] theorem State.drawn_schedule (s : State) (n : Nat) : (s.drawn n).schedule = s.schedule := rfl
@[simp] theorem State.drawn_cfg (s : State) (n : Nat) : (s.drawn n).cfg = s.cfg := rfl

/-! ### freeHiLo -/

@[simp] theorem State.freeHiLo_gprs (s : State) : (s.freeHiLo).gprs = s.gprs := rfl
@[simp] theorem State.freeHiLo_pc (s : State) : (s.freeHiLo).pc = s.pc := rfl
@[simp] theorem State.freeHiLo_isaMode (s : State) : (s.freeHiLo).isaMode = s.isaMode := rfl
@[simp] theorem State.freeHiLo_delaySlot (s : State) : (s.freeHiLo).delaySlot = s.delaySlot := rfl
@[simp] theorem State.freeHiLo_llbit (s : State) : (s.freeHiLo).llbit = s.llbit := rfl
@[simp] theorem State.freeHiLo_waiting (s : State) : (s.freeHiLo).waiting = s.waiting := rfl
@[simp] theorem State.freeHiLo_cp0 (s : State) : (s.freeHiLo).cp0 = s.cp0 := rfl
@[simp] theorem State.freeHiLo_mem (s : State) : (s.freeHiLo).mem = s.mem := rfl
@[simp] theorem State.freeHiLo_devRegs (s : State) : (s.freeHiLo).devRegs = s.devRegs := rfl
@[simp] theorem State.freeHiLo_codeWords (s : State) : (s.freeHiLo).codeWords = s.codeWords := rfl
@[simp] theorem State.freeHiLo_hazards (s : State) : (s.freeHiLo).hazards = s.hazards := rfl
@[simp] theorem State.freeHiLo_staleStatus (s : State) : (s.freeHiLo).staleStatus = s.staleStatus := rfl
@[simp] theorem State.freeHiLo_intReq (s : State) : (s.freeHiLo).intReq = s.intReq := rfl
@[simp] theorem State.freeHiLo_schedule (s : State) : (s.freeHiLo).schedule = s.schedule := rfl
@[simp] theorem State.freeHiLo_cfg (s : State) : (s.freeHiLo).cfg = s.cfg := rfl

/-! ### fullBarrier -/

@[simp] theorem State.fullBarrier_gprs (s : State) : (s.fullBarrier).gprs = s.gprs := rfl
@[simp] theorem State.fullBarrier_hi (s : State) : (s.fullBarrier).hi = s.hi := rfl
@[simp] theorem State.fullBarrier_lo (s : State) : (s.fullBarrier).lo = s.lo := rfl
@[simp] theorem State.fullBarrier_pc (s : State) : (s.fullBarrier).pc = s.pc := rfl
@[simp] theorem State.fullBarrier_isaMode (s : State) : (s.fullBarrier).isaMode = s.isaMode := rfl
@[simp] theorem State.fullBarrier_delaySlot (s : State) : (s.fullBarrier).delaySlot = s.delaySlot := rfl
@[simp] theorem State.fullBarrier_llbit (s : State) : (s.fullBarrier).llbit = s.llbit := rfl
@[simp] theorem State.fullBarrier_waiting (s : State) : (s.fullBarrier).waiting = s.waiting := rfl
@[simp] theorem State.fullBarrier_cp0 (s : State) : (s.fullBarrier).cp0 = s.cp0 := rfl
@[simp] theorem State.fullBarrier_mem (s : State) : (s.fullBarrier).mem = s.mem := rfl
@[simp] theorem State.fullBarrier_devRegs (s : State) : (s.fullBarrier).devRegs = s.devRegs := rfl
@[simp] theorem State.fullBarrier_intReq (s : State) : (s.fullBarrier).intReq = s.intReq := rfl
@[simp] theorem State.fullBarrier_schedule (s : State) : (s.fullBarrier).schedule = s.schedule := rfl
@[simp] theorem State.fullBarrier_freeIdx (s : State) : (s.fullBarrier).freeIdx = s.freeIdx := rfl
@[simp] theorem State.fullBarrier_cfg (s : State) : (s.fullBarrier).cfg = s.cfg := rfl

/-! ### executionBarrier -/

@[simp] theorem State.executionBarrier_gprs (s : State) : (s.executionBarrier).gprs = s.gprs := rfl
@[simp] theorem State.executionBarrier_hi (s : State) : (s.executionBarrier).hi = s.hi := rfl
@[simp] theorem State.executionBarrier_lo (s : State) : (s.executionBarrier).lo = s.lo := rfl
@[simp] theorem State.executionBarrier_pc (s : State) : (s.executionBarrier).pc = s.pc := rfl
@[simp] theorem State.executionBarrier_isaMode (s : State) : (s.executionBarrier).isaMode = s.isaMode := rfl
@[simp] theorem State.executionBarrier_delaySlot (s : State) : (s.executionBarrier).delaySlot = s.delaySlot := rfl
@[simp] theorem State.executionBarrier_llbit (s : State) : (s.executionBarrier).llbit = s.llbit := rfl
@[simp] theorem State.executionBarrier_waiting (s : State) : (s.executionBarrier).waiting = s.waiting := rfl
@[simp] theorem State.executionBarrier_cp0 (s : State) : (s.executionBarrier).cp0 = s.cp0 := rfl
@[simp] theorem State.executionBarrier_mem (s : State) : (s.executionBarrier).mem = s.mem := rfl
@[simp] theorem State.executionBarrier_devRegs (s : State) : (s.executionBarrier).devRegs = s.devRegs := rfl
@[simp] theorem State.executionBarrier_codeWords (s : State) : (s.executionBarrier).codeWords = s.codeWords := rfl
@[simp] theorem State.executionBarrier_staleStatus (s : State) : (s.executionBarrier).staleStatus = s.staleStatus :=
  rfl
@[simp] theorem State.executionBarrier_intReq (s : State) : (s.executionBarrier).intReq = s.intReq := rfl
@[simp] theorem State.executionBarrier_schedule (s : State) : (s.executionBarrier).schedule = s.schedule := rfl
@[simp] theorem State.executionBarrier_freeIdx (s : State) : (s.executionBarrier).freeIdx = s.freeIdx := rfl
@[simp] theorem State.executionBarrier_cfg (s : State) : (s.executionBarrier).cfg = s.cfg := rfl

/-! ### ticked -/

@[simp] theorem State.ticked_gprs (s : State) : (s.ticked).gprs = s.gprs := rfl
@[simp] theorem State.ticked_hi (s : State) : (s.ticked).hi = s.hi := rfl
@[simp] theorem State.ticked_lo (s : State) : (s.ticked).lo = s.lo := rfl
@[simp] theorem State.ticked_pc (s : State) : (s.ticked).pc = s.pc := rfl
@[simp] theorem State.ticked_isaMode (s : State) : (s.ticked).isaMode = s.isaMode := rfl
@[simp] theorem State.ticked_delaySlot (s : State) : (s.ticked).delaySlot = s.delaySlot := rfl
@[simp] theorem State.ticked_llbit (s : State) : (s.ticked).llbit = s.llbit := rfl
@[simp] theorem State.ticked_waiting (s : State) : (s.ticked).waiting = s.waiting := rfl
@[simp] theorem State.ticked_cp0 (s : State) : (s.ticked).cp0 = s.cp0 := rfl
@[simp] theorem State.ticked_mem (s : State) : (s.ticked).mem = s.mem := rfl
@[simp] theorem State.ticked_devRegs (s : State) : (s.ticked).devRegs = s.devRegs := rfl
@[simp] theorem State.ticked_codeWords (s : State) : (s.ticked).codeWords = s.codeWords := rfl
@[simp] theorem State.ticked_staleStatus (s : State) : (s.ticked).staleStatus = s.staleStatus := rfl
@[simp] theorem State.ticked_intReq (s : State) : (s.ticked).intReq = s.intReq := rfl
@[simp] theorem State.ticked_schedule (s : State) : (s.ticked).schedule = s.schedule := rfl
@[simp] theorem State.ticked_freeIdx (s : State) : (s.ticked).freeIdx = s.freeIdx := rfl
@[simp] theorem State.ticked_cfg (s : State) : (s.ticked).cfg = s.cfg := rfl

/-! ### advance -/

@[simp] theorem State.advance_gprs (s : State) : (s.advance).gprs = s.gprs :=
  by unfold State.advance; split <;> (try split) <;> rfl
@[simp] theorem State.advance_hi (s : State) : (s.advance).hi = s.hi :=
  by unfold State.advance; split <;> (try split) <;> rfl
@[simp] theorem State.advance_lo (s : State) : (s.advance).lo = s.lo :=
  by unfold State.advance; split <;> (try split) <;> rfl
@[simp] theorem State.advance_llbit (s : State) : (s.advance).llbit = s.llbit :=
  by unfold State.advance; split <;> (try split) <;> rfl
@[simp] theorem State.advance_waiting (s : State) : (s.advance).waiting = s.waiting :=
  by unfold State.advance; split <;> (try split) <;> rfl
@[simp] theorem State.advance_cp0 (s : State) : (s.advance).cp0 = s.cp0 :=
  by unfold State.advance; split <;> (try split) <;> rfl
@[simp] theorem State.advance_mem (s : State) : (s.advance).mem = s.mem :=
  by unfold State.advance; split <;> (try split) <;> rfl
@[simp] theorem State.advance_devRegs (s : State) : (s.advance).devRegs = s.devRegs :=
  by unfold State.advance; split <;> (try split) <;> rfl
@[simp] theorem State.advance_intReq (s : State) : (s.advance).intReq = s.intReq :=
  by unfold State.advance; split <;> (try split) <;> rfl
@[simp] theorem State.advance_schedule (s : State) : (s.advance).schedule = s.schedule :=
  by unfold State.advance; split <;> (try split) <;> rfl
@[simp] theorem State.advance_freeIdx (s : State) : (s.advance).freeIdx = s.freeIdx :=
  by unfold State.advance; split <;> (try split) <;> rfl
@[simp] theorem State.advance_cfg (s : State) : (s.advance).cfg = s.cfg :=
  by unfold State.advance; split <;> (try split) <;> rfl

/-! ### goto -/

@[simp] theorem State.goto_gprs (s : State) (target : Word) : (s.goto target).gprs = s.gprs := rfl
@[simp] theorem State.goto_hi (s : State) (target : Word) : (s.goto target).hi = s.hi := rfl
@[simp] theorem State.goto_lo (s : State) (target : Word) : (s.goto target).lo = s.lo := rfl
@[simp] theorem State.goto_isaMode (s : State) (target : Word) : (s.goto target).isaMode = s.isaMode := rfl
@[simp] theorem State.goto_delaySlot (s : State) (target : Word) : (s.goto target).delaySlot = s.delaySlot := rfl
@[simp] theorem State.goto_llbit (s : State) (target : Word) : (s.goto target).llbit = s.llbit := rfl
@[simp] theorem State.goto_waiting (s : State) (target : Word) : (s.goto target).waiting = s.waiting := rfl
@[simp] theorem State.goto_cp0 (s : State) (target : Word) : (s.goto target).cp0 = s.cp0 := rfl
@[simp] theorem State.goto_mem (s : State) (target : Word) : (s.goto target).mem = s.mem := rfl
@[simp] theorem State.goto_devRegs (s : State) (target : Word) : (s.goto target).devRegs = s.devRegs := rfl
@[simp] theorem State.goto_codeWords (s : State) (target : Word) : (s.goto target).codeWords = s.codeWords := rfl
@[simp] theorem State.goto_hazards (s : State) (target : Word) : (s.goto target).hazards = s.hazards := rfl
@[simp] theorem State.goto_staleStatus (s : State) (target : Word) : (s.goto target).staleStatus = s.staleStatus :=
  rfl
@[simp] theorem State.goto_intReq (s : State) (target : Word) : (s.goto target).intReq = s.intReq := rfl
@[simp] theorem State.goto_schedule (s : State) (target : Word) : (s.goto target).schedule = s.schedule := rfl
@[simp] theorem State.goto_freeIdx (s : State) (target : Word) : (s.goto target).freeIdx = s.freeIdx := rfl
@[simp] theorem State.goto_cfg (s : State) (target : Word) : (s.goto target).cfg = s.cfg := rfl

/-! ### branchVia -/

@[simp] theorem State.branchVia_gprs (s : State) (target : Word) (isa barrier : Bool) : (s.branchVia target isa barrier).gprs = s.gprs :=
  rfl
@[simp] theorem State.branchVia_hi (s : State) (target : Word) (isa barrier : Bool) : (s.branchVia target isa barrier).hi = s.hi :=
  rfl
@[simp] theorem State.branchVia_lo (s : State) (target : Word) (isa barrier : Bool) : (s.branchVia target isa barrier).lo = s.lo :=
  rfl
@[simp] theorem State.branchVia_isaMode (s : State) (target : Word) (isa barrier : Bool) : (s.branchVia target isa barrier).isaMode = s.isaMode :=
  rfl
@[simp] theorem State.branchVia_llbit (s : State) (target : Word) (isa barrier : Bool) : (s.branchVia target isa barrier).llbit = s.llbit :=
  rfl
@[simp] theorem State.branchVia_waiting (s : State) (target : Word) (isa barrier : Bool) : (s.branchVia target isa barrier).waiting = s.waiting :=
  rfl
@[simp] theorem State.branchVia_cp0 (s : State) (target : Word) (isa barrier : Bool) : (s.branchVia target isa barrier).cp0 = s.cp0 :=
  rfl
@[simp] theorem State.branchVia_mem (s : State) (target : Word) (isa barrier : Bool) : (s.branchVia target isa barrier).mem = s.mem :=
  rfl
@[simp] theorem State.branchVia_devRegs (s : State) (target : Word) (isa barrier : Bool) : (s.branchVia target isa barrier).devRegs = s.devRegs :=
  rfl
@[simp] theorem State.branchVia_codeWords (s : State) (target : Word) (isa barrier : Bool) : (s.branchVia target isa barrier).codeWords = s.codeWords :=
  rfl
@[simp] theorem State.branchVia_hazards (s : State) (target : Word) (isa barrier : Bool) : (s.branchVia target isa barrier).hazards = s.hazards :=
  rfl
@[simp] theorem State.branchVia_staleStatus (s : State) (target : Word) (isa barrier : Bool) : (s.branchVia target isa barrier).staleStatus = s.staleStatus :=
  rfl
@[simp] theorem State.branchVia_intReq (s : State) (target : Word) (isa barrier : Bool) : (s.branchVia target isa barrier).intReq = s.intReq :=
  rfl
@[simp] theorem State.branchVia_schedule (s : State) (target : Word) (isa barrier : Bool) : (s.branchVia target isa barrier).schedule = s.schedule :=
  rfl
@[simp] theorem State.branchVia_freeIdx (s : State) (target : Word) (isa barrier : Bool) : (s.branchVia target isa barrier).freeIdx = s.freeIdx :=
  rfl
@[simp] theorem State.branchVia_cfg (s : State) (target : Word) (isa barrier : Bool) : (s.branchVia target isa barrier).cfg = s.cfg :=
  rfl

/-! ### branchIf -/

@[simp] theorem State.branchIf_gprs (s : State) (c : Bool) (offset : BitVec 16) : (s.branchIf c offset).gprs = s.gprs :=
  rfl
@[simp] theorem State.branchIf_hi (s : State) (c : Bool) (offset : BitVec 16) : (s.branchIf c offset).hi = s.hi := rfl
@[simp] theorem State.branchIf_lo (s : State) (c : Bool) (offset : BitVec 16) : (s.branchIf c offset).lo = s.lo := rfl
@[simp] theorem State.branchIf_isaMode (s : State) (c : Bool) (offset : BitVec 16) : (s.branchIf c offset).isaMode = s.isaMode :=
  rfl
@[simp] theorem State.branchIf_llbit (s : State) (c : Bool) (offset : BitVec 16) : (s.branchIf c offset).llbit = s.llbit :=
  rfl
@[simp] theorem State.branchIf_waiting (s : State) (c : Bool) (offset : BitVec 16) : (s.branchIf c offset).waiting = s.waiting :=
  rfl
@[simp] theorem State.branchIf_cp0 (s : State) (c : Bool) (offset : BitVec 16) : (s.branchIf c offset).cp0 = s.cp0 :=
  rfl
@[simp] theorem State.branchIf_mem (s : State) (c : Bool) (offset : BitVec 16) : (s.branchIf c offset).mem = s.mem :=
  rfl
@[simp] theorem State.branchIf_devRegs (s : State) (c : Bool) (offset : BitVec 16) : (s.branchIf c offset).devRegs = s.devRegs :=
  rfl
@[simp] theorem State.branchIf_codeWords (s : State) (c : Bool) (offset : BitVec 16) : (s.branchIf c offset).codeWords = s.codeWords :=
  rfl
@[simp] theorem State.branchIf_hazards (s : State) (c : Bool) (offset : BitVec 16) : (s.branchIf c offset).hazards = s.hazards :=
  rfl
@[simp] theorem State.branchIf_staleStatus (s : State) (c : Bool) (offset : BitVec 16) : (s.branchIf c offset).staleStatus = s.staleStatus :=
  rfl
@[simp] theorem State.branchIf_intReq (s : State) (c : Bool) (offset : BitVec 16) : (s.branchIf c offset).intReq = s.intReq :=
  rfl
@[simp] theorem State.branchIf_schedule (s : State) (c : Bool) (offset : BitVec 16) : (s.branchIf c offset).schedule = s.schedule :=
  rfl
@[simp] theorem State.branchIf_freeIdx (s : State) (c : Bool) (offset : BitVec 16) : (s.branchIf c offset).freeIdx = s.freeIdx :=
  rfl
@[simp] theorem State.branchIf_cfg (s : State) (c : Bool) (offset : BitVec 16) : (s.branchIf c offset).cfg = s.cfg :=
  rfl

/-! ### branchLikely -/

@[simp] theorem State.branchLikely_gprs (s : State) (c : Bool) (offset : BitVec 16) : (s.branchLikely c offset).gprs = s.gprs :=
  by unfold State.branchLikely; split <;> rfl
@[simp] theorem State.branchLikely_hi (s : State) (c : Bool) (offset : BitVec 16) : (s.branchLikely c offset).hi = s.hi :=
  by unfold State.branchLikely; split <;> rfl
@[simp] theorem State.branchLikely_lo (s : State) (c : Bool) (offset : BitVec 16) : (s.branchLikely c offset).lo = s.lo :=
  by unfold State.branchLikely; split <;> rfl
@[simp] theorem State.branchLikely_isaMode (s : State) (c : Bool) (offset : BitVec 16) : (s.branchLikely c offset).isaMode = s.isaMode :=
  by unfold State.branchLikely; split <;> rfl
@[simp] theorem State.branchLikely_llbit (s : State) (c : Bool) (offset : BitVec 16) : (s.branchLikely c offset).llbit = s.llbit :=
  by unfold State.branchLikely; split <;> rfl
@[simp] theorem State.branchLikely_waiting (s : State) (c : Bool) (offset : BitVec 16) : (s.branchLikely c offset).waiting = s.waiting :=
  by unfold State.branchLikely; split <;> rfl
@[simp] theorem State.branchLikely_cp0 (s : State) (c : Bool) (offset : BitVec 16) : (s.branchLikely c offset).cp0 = s.cp0 :=
  by unfold State.branchLikely; split <;> rfl
@[simp] theorem State.branchLikely_mem (s : State) (c : Bool) (offset : BitVec 16) : (s.branchLikely c offset).mem = s.mem :=
  by unfold State.branchLikely; split <;> rfl
@[simp] theorem State.branchLikely_devRegs (s : State) (c : Bool) (offset : BitVec 16) : (s.branchLikely c offset).devRegs = s.devRegs :=
  by unfold State.branchLikely; split <;> rfl
@[simp] theorem State.branchLikely_codeWords (s : State) (c : Bool) (offset : BitVec 16) : (s.branchLikely c offset).codeWords = s.codeWords :=
  by unfold State.branchLikely; split <;> rfl
@[simp] theorem State.branchLikely_hazards (s : State) (c : Bool) (offset : BitVec 16) : (s.branchLikely c offset).hazards = s.hazards :=
  by unfold State.branchLikely; split <;> rfl
@[simp] theorem State.branchLikely_staleStatus (s : State) (c : Bool) (offset : BitVec 16) : (s.branchLikely c offset).staleStatus = s.staleStatus :=
  by unfold State.branchLikely; split <;> rfl
@[simp] theorem State.branchLikely_intReq (s : State) (c : Bool) (offset : BitVec 16) : (s.branchLikely c offset).intReq = s.intReq :=
  by unfold State.branchLikely; split <;> rfl
@[simp] theorem State.branchLikely_schedule (s : State) (c : Bool) (offset : BitVec 16) : (s.branchLikely c offset).schedule = s.schedule :=
  by unfold State.branchLikely; split <;> rfl
@[simp] theorem State.branchLikely_freeIdx (s : State) (c : Bool) (offset : BitVec 16) : (s.branchLikely c offset).freeIdx = s.freeIdx :=
  by unfold State.branchLikely; split <;> rfl
@[simp] theorem State.branchLikely_cfg (s : State) (c : Bool) (offset : BitVec 16) : (s.branchLikely c offset).cfg = s.cfg :=
  by unfold State.branchLikely; split <;> rfl

/-! ### redirect -/

@[simp] theorem State.redirect_gprs (s : State) (target : Word) (isa : Bool) : (s.redirect target isa).gprs = s.gprs :=
  rfl
@[simp] theorem State.redirect_hi (s : State) (target : Word) (isa : Bool) : (s.redirect target isa).hi = s.hi := rfl
@[simp] theorem State.redirect_lo (s : State) (target : Word) (isa : Bool) : (s.redirect target isa).lo = s.lo := rfl
@[simp] theorem State.redirect_llbit (s : State) (target : Word) (isa : Bool) : (s.redirect target isa).llbit = s.llbit :=
  rfl
@[simp] theorem State.redirect_waiting (s : State) (target : Word) (isa : Bool) : (s.redirect target isa).waiting = s.waiting :=
  rfl
@[simp] theorem State.redirect_cp0 (s : State) (target : Word) (isa : Bool) : (s.redirect target isa).cp0 = s.cp0 :=
  rfl
@[simp] theorem State.redirect_mem (s : State) (target : Word) (isa : Bool) : (s.redirect target isa).mem = s.mem :=
  rfl
@[simp] theorem State.redirect_devRegs (s : State) (target : Word) (isa : Bool) : (s.redirect target isa).devRegs = s.devRegs :=
  rfl
@[simp] theorem State.redirect_codeWords (s : State) (target : Word) (isa : Bool) : (s.redirect target isa).codeWords = s.codeWords :=
  rfl
@[simp] theorem State.redirect_intReq (s : State) (target : Word) (isa : Bool) : (s.redirect target isa).intReq = s.intReq :=
  rfl
@[simp] theorem State.redirect_schedule (s : State) (target : Word) (isa : Bool) : (s.redirect target isa).schedule = s.schedule :=
  rfl
@[simp] theorem State.redirect_freeIdx (s : State) (target : Word) (isa : Bool) : (s.redirect target isa).freeIdx = s.freeIdx :=
  rfl
@[simp] theorem State.redirect_cfg (s : State) (target : Word) (isa : Bool) : (s.redirect target isa).cfg = s.cfg :=
  rfl

/-! ### storeRam -/

@[simp] theorem State.storeRam_gprs (s : State) (wa : Nat) (w : LaneStore) : (s.storeRam wa w).gprs = s.gprs := rfl
@[simp] theorem State.storeRam_hi (s : State) (wa : Nat) (w : LaneStore) : (s.storeRam wa w).hi = s.hi := rfl
@[simp] theorem State.storeRam_lo (s : State) (wa : Nat) (w : LaneStore) : (s.storeRam wa w).lo = s.lo := rfl
@[simp] theorem State.storeRam_pc (s : State) (wa : Nat) (w : LaneStore) : (s.storeRam wa w).pc = s.pc := rfl
@[simp] theorem State.storeRam_isaMode (s : State) (wa : Nat) (w : LaneStore) : (s.storeRam wa w).isaMode = s.isaMode :=
  rfl
@[simp] theorem State.storeRam_delaySlot (s : State) (wa : Nat) (w : LaneStore) : (s.storeRam wa w).delaySlot = s.delaySlot :=
  rfl
@[simp] theorem State.storeRam_llbit (s : State) (wa : Nat) (w : LaneStore) : (s.storeRam wa w).llbit = s.llbit := rfl
@[simp] theorem State.storeRam_waiting (s : State) (wa : Nat) (w : LaneStore) : (s.storeRam wa w).waiting = s.waiting :=
  rfl
@[simp] theorem State.storeRam_cp0 (s : State) (wa : Nat) (w : LaneStore) : (s.storeRam wa w).cp0 = s.cp0 := rfl
@[simp] theorem State.storeRam_devRegs (s : State) (wa : Nat) (w : LaneStore) : (s.storeRam wa w).devRegs = s.devRegs :=
  rfl
@[simp] theorem State.storeRam_hazards (s : State) (wa : Nat) (w : LaneStore) : (s.storeRam wa w).hazards = s.hazards :=
  rfl
@[simp] theorem State.storeRam_staleStatus (s : State) (wa : Nat) (w : LaneStore) : (s.storeRam wa w).staleStatus = s.staleStatus :=
  rfl
@[simp] theorem State.storeRam_intReq (s : State) (wa : Nat) (w : LaneStore) : (s.storeRam wa w).intReq = s.intReq :=
  rfl
@[simp] theorem State.storeRam_schedule (s : State) (wa : Nat) (w : LaneStore) : (s.storeRam wa w).schedule = s.schedule :=
  rfl
@[simp] theorem State.storeRam_freeIdx (s : State) (wa : Nat) (w : LaneStore) : (s.storeRam wa w).freeIdx = s.freeIdx :=
  rfl
@[simp] theorem State.storeRam_cfg (s : State) (wa : Nat) (w : LaneStore) : (s.storeRam wa w).cfg = s.cfg := rfl

/-! ### storeDevice -/

@[simp] theorem State.storeDevice_gprs (s : State) (reg : Nat) (kind : RegKind) (w : LaneStore) : (s.storeDevice reg kind w).gprs = s.gprs :=
  rfl
@[simp] theorem State.storeDevice_hi (s : State) (reg : Nat) (kind : RegKind) (w : LaneStore) : (s.storeDevice reg kind w).hi = s.hi :=
  rfl
@[simp] theorem State.storeDevice_lo (s : State) (reg : Nat) (kind : RegKind) (w : LaneStore) : (s.storeDevice reg kind w).lo = s.lo :=
  rfl
@[simp] theorem State.storeDevice_pc (s : State) (reg : Nat) (kind : RegKind) (w : LaneStore) : (s.storeDevice reg kind w).pc = s.pc :=
  rfl
@[simp] theorem State.storeDevice_isaMode (s : State) (reg : Nat) (kind : RegKind) (w : LaneStore) : (s.storeDevice reg kind w).isaMode = s.isaMode :=
  rfl
@[simp] theorem State.storeDevice_delaySlot (s : State) (reg : Nat) (kind : RegKind) (w : LaneStore) : (s.storeDevice reg kind w).delaySlot = s.delaySlot :=
  rfl
@[simp] theorem State.storeDevice_llbit (s : State) (reg : Nat) (kind : RegKind) (w : LaneStore) : (s.storeDevice reg kind w).llbit = s.llbit :=
  rfl
@[simp] theorem State.storeDevice_waiting (s : State) (reg : Nat) (kind : RegKind) (w : LaneStore) : (s.storeDevice reg kind w).waiting = s.waiting :=
  rfl
@[simp] theorem State.storeDevice_cp0 (s : State) (reg : Nat) (kind : RegKind) (w : LaneStore) : (s.storeDevice reg kind w).cp0 = s.cp0 :=
  rfl
@[simp] theorem State.storeDevice_mem (s : State) (reg : Nat) (kind : RegKind) (w : LaneStore) : (s.storeDevice reg kind w).mem = s.mem :=
  rfl
@[simp] theorem State.storeDevice_codeWords (s : State) (reg : Nat) (kind : RegKind) (w : LaneStore) : (s.storeDevice reg kind w).codeWords = s.codeWords :=
  rfl
@[simp] theorem State.storeDevice_hazards (s : State) (reg : Nat) (kind : RegKind) (w : LaneStore) : (s.storeDevice reg kind w).hazards = s.hazards :=
  rfl
@[simp] theorem State.storeDevice_staleStatus (s : State) (reg : Nat) (kind : RegKind) (w : LaneStore) : (s.storeDevice reg kind w).staleStatus = s.staleStatus :=
  rfl
@[simp] theorem State.storeDevice_intReq (s : State) (reg : Nat) (kind : RegKind) (w : LaneStore) : (s.storeDevice reg kind w).intReq = s.intReq :=
  rfl
@[simp] theorem State.storeDevice_schedule (s : State) (reg : Nat) (kind : RegKind) (w : LaneStore) : (s.storeDevice reg kind w).schedule = s.schedule :=
  rfl
@[simp] theorem State.storeDevice_freeIdx (s : State) (reg : Nat) (kind : RegKind) (w : LaneStore) : (s.storeDevice reg kind w).freeIdx = s.freeIdx :=
  rfl
@[simp] theorem State.storeDevice_cfg (s : State) (reg : Nat) (kind : RegKind) (w : LaneStore) : (s.storeDevice reg kind w).cfg = s.cfg :=
  rfl

/-! ### withCp0 -/

@[simp] theorem State.withCp0_gprs (s : State) (c : Cp0) : (s.withCp0 c).gprs = s.gprs := rfl
@[simp] theorem State.withCp0_hi (s : State) (c : Cp0) : (s.withCp0 c).hi = s.hi := rfl
@[simp] theorem State.withCp0_lo (s : State) (c : Cp0) : (s.withCp0 c).lo = s.lo := rfl
@[simp] theorem State.withCp0_pc (s : State) (c : Cp0) : (s.withCp0 c).pc = s.pc := rfl
@[simp] theorem State.withCp0_isaMode (s : State) (c : Cp0) : (s.withCp0 c).isaMode = s.isaMode := rfl
@[simp] theorem State.withCp0_delaySlot (s : State) (c : Cp0) : (s.withCp0 c).delaySlot = s.delaySlot := rfl
@[simp] theorem State.withCp0_llbit (s : State) (c : Cp0) : (s.withCp0 c).llbit = s.llbit := rfl
@[simp] theorem State.withCp0_waiting (s : State) (c : Cp0) : (s.withCp0 c).waiting = s.waiting := rfl
@[simp] theorem State.withCp0_mem (s : State) (c : Cp0) : (s.withCp0 c).mem = s.mem := rfl
@[simp] theorem State.withCp0_devRegs (s : State) (c : Cp0) : (s.withCp0 c).devRegs = s.devRegs := rfl
@[simp] theorem State.withCp0_codeWords (s : State) (c : Cp0) : (s.withCp0 c).codeWords = s.codeWords := rfl
@[simp] theorem State.withCp0_hazards (s : State) (c : Cp0) : (s.withCp0 c).hazards = s.hazards := rfl
@[simp] theorem State.withCp0_staleStatus (s : State) (c : Cp0) : (s.withCp0 c).staleStatus = s.staleStatus :=
  rfl
@[simp] theorem State.withCp0_intReq (s : State) (c : Cp0) : (s.withCp0 c).intReq = s.intReq := rfl
@[simp] theorem State.withCp0_schedule (s : State) (c : Cp0) : (s.withCp0 c).schedule = s.schedule := rfl
@[simp] theorem State.withCp0_freeIdx (s : State) (c : Cp0) : (s.withCp0 c).freeIdx = s.freeIdx := rfl
@[simp] theorem State.withCp0_cfg (s : State) (c : Cp0) : (s.withCp0 c).cfg = s.cfg := rfl

/-! ### enterException -/

@[simp] theorem enterException_gprs (e : Exc) (s : State) : (enterException e s).gprs = s.gprs := rfl
@[simp] theorem enterException_hi (e : Exc) (s : State) : (enterException e s).hi = s.hi := rfl
@[simp] theorem enterException_lo (e : Exc) (s : State) : (enterException e s).lo = s.lo := rfl
@[simp] theorem enterException_llbit (e : Exc) (s : State) : (enterException e s).llbit = s.llbit := rfl
@[simp] theorem enterException_waiting (e : Exc) (s : State) : (enterException e s).waiting = s.waiting := rfl
@[simp] theorem enterException_mem (e : Exc) (s : State) : (enterException e s).mem = s.mem := rfl
@[simp] theorem enterException_devRegs (e : Exc) (s : State) : (enterException e s).devRegs = s.devRegs := rfl
@[simp] theorem enterException_codeWords (e : Exc) (s : State) : (enterException e s).codeWords = s.codeWords := rfl
@[simp] theorem enterException_intReq (e : Exc) (s : State) : (enterException e s).intReq = s.intReq := rfl
@[simp] theorem enterException_schedule (e : Exc) (s : State) : (enterException e s).schedule = s.schedule := rfl
@[simp] theorem enterException_cfg (e : Exc) (s : State) : (enterException e s).cfg = s.cfg := rfl

/-! ### reenterDebug -/

@[simp] theorem reenterDebug_gprs (e : Exc) (s : State) : (reenterDebug e s).gprs = s.gprs := rfl
@[simp] theorem reenterDebug_hi (e : Exc) (s : State) : (reenterDebug e s).hi = s.hi := rfl
@[simp] theorem reenterDebug_lo (e : Exc) (s : State) : (reenterDebug e s).lo = s.lo := rfl
@[simp] theorem reenterDebug_llbit (e : Exc) (s : State) : (reenterDebug e s).llbit = s.llbit := rfl
@[simp] theorem reenterDebug_waiting (e : Exc) (s : State) : (reenterDebug e s).waiting = s.waiting := rfl
@[simp] theorem reenterDebug_mem (e : Exc) (s : State) : (reenterDebug e s).mem = s.mem := rfl
@[simp] theorem reenterDebug_devRegs (e : Exc) (s : State) : (reenterDebug e s).devRegs = s.devRegs := rfl
@[simp] theorem reenterDebug_codeWords (e : Exc) (s : State) : (reenterDebug e s).codeWords = s.codeWords := rfl
@[simp] theorem reenterDebug_intReq (e : Exc) (s : State) : (reenterDebug e s).intReq = s.intReq := rfl
@[simp] theorem reenterDebug_schedule (e : Exc) (s : State) : (reenterDebug e s).schedule = s.schedule := rfl
@[simp] theorem reenterDebug_cfg (e : Exc) (s : State) : (reenterDebug e s).cfg = s.cfg := rfl

/-! ### enterDebug -/

@[simp] theorem enterDebug_gprs (c : DebugCause) (s : State) : (enterDebug c s).gprs = s.gprs := rfl
@[simp] theorem enterDebug_hi (c : DebugCause) (s : State) : (enterDebug c s).hi = s.hi := rfl
@[simp] theorem enterDebug_lo (c : DebugCause) (s : State) : (enterDebug c s).lo = s.lo := rfl
@[simp] theorem enterDebug_llbit (c : DebugCause) (s : State) : (enterDebug c s).llbit = s.llbit := rfl
@[simp] theorem enterDebug_mem (c : DebugCause) (s : State) : (enterDebug c s).mem = s.mem := rfl
@[simp] theorem enterDebug_devRegs (c : DebugCause) (s : State) : (enterDebug c s).devRegs = s.devRegs := rfl
@[simp] theorem enterDebug_codeWords (c : DebugCause) (s : State) : (enterDebug c s).codeWords = s.codeWords := rfl
@[simp] theorem enterDebug_intReq (c : DebugCause) (s : State) : (enterDebug c s).intReq = s.intReq := rfl
@[simp] theorem enterDebug_schedule (c : DebugCause) (s : State) : (enterDebug c s).schedule = s.schedule := rfl
@[simp] theorem enterDebug_cfg (c : DebugCause) (s : State) : (enterDebug c s).cfg = s.cfg := rfl

/-! ### raise -/

@[simp] theorem raise_gprs (e : Exc) (s : State) : (raise e s).gprs = s.gprs := by unfold raise; split <;> rfl
@[simp] theorem raise_hi (e : Exc) (s : State) : (raise e s).hi = s.hi := by unfold raise; split <;> rfl
@[simp] theorem raise_lo (e : Exc) (s : State) : (raise e s).lo = s.lo := by unfold raise; split <;> rfl
@[simp] theorem raise_llbit (e : Exc) (s : State) : (raise e s).llbit = s.llbit := by unfold raise; split <;> rfl
@[simp] theorem raise_waiting (e : Exc) (s : State) : (raise e s).waiting = s.waiting :=
  by unfold raise; split <;> rfl
@[simp] theorem raise_mem (e : Exc) (s : State) : (raise e s).mem = s.mem := by unfold raise; split <;> rfl
@[simp] theorem raise_devRegs (e : Exc) (s : State) : (raise e s).devRegs = s.devRegs :=
  by unfold raise; split <;> rfl
@[simp] theorem raise_codeWords (e : Exc) (s : State) : (raise e s).codeWords = s.codeWords :=
  by unfold raise; split <;> rfl
@[simp] theorem raise_intReq (e : Exc) (s : State) : (raise e s).intReq = s.intReq := by unfold raise; split <;> rfl
@[simp] theorem raise_schedule (e : Exc) (s : State) : (raise e s).schedule = s.schedule :=
  by unfold raise; split <;> rfl
@[simp] theorem raise_cfg (e : Exc) (s : State) : (raise e s).cfg = s.cfg := by unfold raise; split <;> rfl

/-! ### returnFromException -/

@[simp] theorem returnFromException_gprs (s : State) : (returnFromException s).gprs = s.gprs := rfl
@[simp] theorem returnFromException_hi (s : State) : (returnFromException s).hi = s.hi := rfl
@[simp] theorem returnFromException_lo (s : State) : (returnFromException s).lo = s.lo := rfl
@[simp] theorem returnFromException_waiting (s : State) : (returnFromException s).waiting = s.waiting := rfl
@[simp] theorem returnFromException_mem (s : State) : (returnFromException s).mem = s.mem := rfl
@[simp] theorem returnFromException_devRegs (s : State) : (returnFromException s).devRegs = s.devRegs := rfl
@[simp] theorem returnFromException_intReq (s : State) : (returnFromException s).intReq = s.intReq := rfl
@[simp] theorem returnFromException_schedule (s : State) : (returnFromException s).schedule = s.schedule := rfl
@[simp] theorem returnFromException_freeIdx (s : State) : (returnFromException s).freeIdx = s.freeIdx := rfl
@[simp] theorem returnFromException_cfg (s : State) : (returnFromException s).cfg = s.cfg := rfl

/-! ### returnFromDebug -/

@[simp] theorem returnFromDebug_gprs (s : State) : (returnFromDebug s).gprs = s.gprs := rfl
@[simp] theorem returnFromDebug_hi (s : State) : (returnFromDebug s).hi = s.hi := rfl
@[simp] theorem returnFromDebug_lo (s : State) : (returnFromDebug s).lo = s.lo := rfl
@[simp] theorem returnFromDebug_llbit (s : State) : (returnFromDebug s).llbit = s.llbit := rfl
@[simp] theorem returnFromDebug_waiting (s : State) : (returnFromDebug s).waiting = s.waiting := rfl
@[simp] theorem returnFromDebug_mem (s : State) : (returnFromDebug s).mem = s.mem := rfl
@[simp] theorem returnFromDebug_devRegs (s : State) : (returnFromDebug s).devRegs = s.devRegs := rfl
@[simp] theorem returnFromDebug_intReq (s : State) : (returnFromDebug s).intReq = s.intReq := rfl
@[simp] theorem returnFromDebug_schedule (s : State) : (returnFromDebug s).schedule = s.schedule := rfl
@[simp] theorem returnFromDebug_freeIdx (s : State) : (returnFromDebug s).freeIdx = s.freeIdx := rfl
@[simp] theorem returnFromDebug_cfg (s : State) : (returnFromDebug s).cfg = s.cfg := rfl

/-! ### enterNmi -/

@[simp] theorem enterNmi_gprs (s : State) : (enterNmi s).gprs = s.gprs := rfl
@[simp] theorem enterNmi_hi (s : State) : (enterNmi s).hi = s.hi := rfl
@[simp] theorem enterNmi_lo (s : State) : (enterNmi s).lo = s.lo := rfl
@[simp] theorem enterNmi_llbit (s : State) : (enterNmi s).llbit = s.llbit := rfl
@[simp] theorem enterNmi_mem (s : State) : (enterNmi s).mem = s.mem := rfl
@[simp] theorem enterNmi_devRegs (s : State) : (enterNmi s).devRegs = s.devRegs := rfl
@[simp] theorem enterNmi_codeWords (s : State) : (enterNmi s).codeWords = s.codeWords := rfl
@[simp] theorem enterNmi_intReq (s : State) : (enterNmi s).intReq = s.intReq := rfl
@[simp] theorem enterNmi_schedule (s : State) : (enterNmi s).schedule = s.schedule := rfl
@[simp] theorem enterNmi_freeIdx (s : State) : (enterNmi s).freeIdx = s.freeIdx := rfl
@[simp] theorem enterNmi_cfg (s : State) : (enterNmi s).cfg = s.cfg := rfl

/-! ### enterReset -/

@[simp] theorem enterReset_gprs (s : State) : (enterReset s).gprs = s.gprs := rfl
@[simp] theorem enterReset_hi (s : State) : (enterReset s).hi = s.hi := rfl
@[simp] theorem enterReset_lo (s : State) : (enterReset s).lo = s.lo := rfl
@[simp] theorem enterReset_llbit (s : State) : (enterReset s).llbit = s.llbit := rfl
@[simp] theorem enterReset_mem (s : State) : (enterReset s).mem = s.mem := rfl
@[simp] theorem enterReset_devRegs (s : State) : (enterReset s).devRegs = s.devRegs := rfl
@[simp] theorem enterReset_codeWords (s : State) : (enterReset s).codeWords = s.codeWords := rfl
@[simp] theorem enterReset_intReq (s : State) : (enterReset s).intReq = s.intReq := rfl
@[simp] theorem enterReset_schedule (s : State) : (enterReset s).schedule = s.schedule := rfl
@[simp] theorem enterReset_freeIdx (s : State) : (enterReset s).freeIdx = s.freeIdx := rfl
@[simp] theorem enterReset_cfg (s : State) : (enterReset s).cfg = s.cfg := rfl

/-! ### afterStoreConditional -/

@[simp] theorem afterStoreConditional_hi (rt : Reg) (r : Word) (s : State) : (afterStoreConditional rt r s).hi = s.hi :=
  by simp [afterStoreConditional]
@[simp] theorem afterStoreConditional_lo (rt : Reg) (r : Word) (s : State) : (afterStoreConditional rt r s).lo = s.lo :=
  by simp [afterStoreConditional]
@[simp] theorem afterStoreConditional_waiting (rt : Reg) (r : Word) (s : State) : (afterStoreConditional rt r s).waiting = s.waiting :=
  by simp [afterStoreConditional]
@[simp] theorem afterStoreConditional_cp0 (rt : Reg) (r : Word) (s : State) : (afterStoreConditional rt r s).cp0 = s.cp0 :=
  by simp [afterStoreConditional]
@[simp] theorem afterStoreConditional_mem (rt : Reg) (r : Word) (s : State) : (afterStoreConditional rt r s).mem = s.mem :=
  by simp [afterStoreConditional]
@[simp] theorem afterStoreConditional_devRegs (rt : Reg) (r : Word) (s : State) : (afterStoreConditional rt r s).devRegs = s.devRegs :=
  by simp [afterStoreConditional]
@[simp] theorem afterStoreConditional_intReq (rt : Reg) (r : Word) (s : State) : (afterStoreConditional rt r s).intReq = s.intReq :=
  by simp [afterStoreConditional]
@[simp] theorem afterStoreConditional_schedule (rt : Reg) (r : Word) (s : State) : (afterStoreConditional rt r s).schedule = s.schedule :=
  by simp [afterStoreConditional]
@[simp] theorem afterStoreConditional_cfg (rt : Reg) (r : Word) (s : State) : (afterStoreConditional rt r s).cfg = s.cfg :=
  by simp [afterStoreConditional]

/-! ### noteWrite -/

@[simp] theorem noteWrite_gprs (r : Cp0Reg) (s t : State) : (noteWrite r s t).gprs = t.gprs := rfl
@[simp] theorem noteWrite_hi (r : Cp0Reg) (s t : State) : (noteWrite r s t).hi = t.hi := rfl
@[simp] theorem noteWrite_lo (r : Cp0Reg) (s t : State) : (noteWrite r s t).lo = t.lo := rfl
@[simp] theorem noteWrite_pc (r : Cp0Reg) (s t : State) : (noteWrite r s t).pc = t.pc := rfl
@[simp] theorem noteWrite_isaMode (r : Cp0Reg) (s t : State) : (noteWrite r s t).isaMode = t.isaMode := rfl
@[simp] theorem noteWrite_delaySlot (r : Cp0Reg) (s t : State) : (noteWrite r s t).delaySlot = t.delaySlot := rfl
@[simp] theorem noteWrite_llbit (r : Cp0Reg) (s t : State) : (noteWrite r s t).llbit = t.llbit := rfl
@[simp] theorem noteWrite_waiting (r : Cp0Reg) (s t : State) : (noteWrite r s t).waiting = t.waiting := rfl
@[simp] theorem noteWrite_cp0 (r : Cp0Reg) (s t : State) : (noteWrite r s t).cp0 = t.cp0 := rfl
@[simp] theorem noteWrite_mem (r : Cp0Reg) (s t : State) : (noteWrite r s t).mem = t.mem := rfl
@[simp] theorem noteWrite_devRegs (r : Cp0Reg) (s t : State) : (noteWrite r s t).devRegs = t.devRegs := rfl
@[simp] theorem noteWrite_codeWords (r : Cp0Reg) (s t : State) : (noteWrite r s t).codeWords = t.codeWords := rfl
@[simp] theorem noteWrite_intReq (r : Cp0Reg) (s t : State) : (noteWrite r s t).intReq = t.intReq := rfl
@[simp] theorem noteWrite_schedule (r : Cp0Reg) (s t : State) : (noteWrite r s t).schedule = t.schedule := rfl
@[simp] theorem noteWrite_freeIdx (r : Cp0Reg) (s t : State) : (noteWrite r s t).freeIdx = t.freeIdx := rfl
@[simp] theorem noteWrite_cfg (r : Cp0Reg) (s t : State) : (noteWrite r s t).cfg = t.cfg := rfl

/-! ### noteInterruptEnable -/

@[simp] theorem noteInterruptEnable_gprs (s t : State) : (noteInterruptEnable s t).gprs = t.gprs :=
  by unfold noteInterruptEnable; split <;> rfl
@[simp] theorem noteInterruptEnable_hi (s t : State) : (noteInterruptEnable s t).hi = t.hi :=
  by unfold noteInterruptEnable; split <;> rfl
@[simp] theorem noteInterruptEnable_lo (s t : State) : (noteInterruptEnable s t).lo = t.lo :=
  by unfold noteInterruptEnable; split <;> rfl
@[simp] theorem noteInterruptEnable_pc (s t : State) : (noteInterruptEnable s t).pc = t.pc :=
  by unfold noteInterruptEnable; split <;> rfl
@[simp] theorem noteInterruptEnable_isaMode (s t : State) : (noteInterruptEnable s t).isaMode = t.isaMode :=
  by unfold noteInterruptEnable; split <;> rfl
@[simp] theorem noteInterruptEnable_delaySlot (s t : State) : (noteInterruptEnable s t).delaySlot = t.delaySlot :=
  by unfold noteInterruptEnable; split <;> rfl
@[simp] theorem noteInterruptEnable_llbit (s t : State) : (noteInterruptEnable s t).llbit = t.llbit :=
  by unfold noteInterruptEnable; split <;> rfl
@[simp] theorem noteInterruptEnable_waiting (s t : State) : (noteInterruptEnable s t).waiting = t.waiting :=
  by unfold noteInterruptEnable; split <;> rfl
@[simp] theorem noteInterruptEnable_cp0 (s t : State) : (noteInterruptEnable s t).cp0 = t.cp0 :=
  by unfold noteInterruptEnable; split <;> rfl
@[simp] theorem noteInterruptEnable_mem (s t : State) : (noteInterruptEnable s t).mem = t.mem :=
  by unfold noteInterruptEnable; split <;> rfl
@[simp] theorem noteInterruptEnable_devRegs (s t : State) : (noteInterruptEnable s t).devRegs = t.devRegs :=
  by unfold noteInterruptEnable; split <;> rfl
@[simp] theorem noteInterruptEnable_codeWords (s t : State) : (noteInterruptEnable s t).codeWords = t.codeWords :=
  by unfold noteInterruptEnable; split <;> rfl
@[simp] theorem noteInterruptEnable_staleStatus (s t : State) : (noteInterruptEnable s t).staleStatus = t.staleStatus :=
  by unfold noteInterruptEnable; split <;> rfl
@[simp] theorem noteInterruptEnable_intReq (s t : State) : (noteInterruptEnable s t).intReq = t.intReq :=
  by unfold noteInterruptEnable; split <;> rfl
@[simp] theorem noteInterruptEnable_schedule (s t : State) : (noteInterruptEnable s t).schedule = t.schedule :=
  by unfold noteInterruptEnable; split <;> rfl
@[simp] theorem noteInterruptEnable_freeIdx (s t : State) : (noteInterruptEnable s t).freeIdx = t.freeIdx :=
  by unfold noteInterruptEnable; split <;> rfl
@[simp] theorem noteInterruptEnable_cfg (s t : State) : (noteInterruptEnable s t).cfg = t.cfg :=
  by unfold noteInterruptEnable; split <;> rfl

/-! ### countTick -/

@[simp] theorem countTick_gprs (s : State) : (countTick s).gprs = s.gprs :=
  by unfold countTick; dsimp only; split <;> rfl
@[simp] theorem countTick_hi (s : State) : (countTick s).hi = s.hi := by unfold countTick; dsimp only; split <;> rfl
@[simp] theorem countTick_lo (s : State) : (countTick s).lo = s.lo := by unfold countTick; dsimp only; split <;> rfl
@[simp] theorem countTick_pc (s : State) : (countTick s).pc = s.pc := by unfold countTick; dsimp only; split <;> rfl
@[simp] theorem countTick_isaMode (s : State) : (countTick s).isaMode = s.isaMode :=
  by unfold countTick; dsimp only; split <;> rfl
@[simp] theorem countTick_delaySlot (s : State) : (countTick s).delaySlot = s.delaySlot :=
  by unfold countTick; dsimp only; split <;> rfl
@[simp] theorem countTick_llbit (s : State) : (countTick s).llbit = s.llbit :=
  by unfold countTick; dsimp only; split <;> rfl
@[simp] theorem countTick_waiting (s : State) : (countTick s).waiting = s.waiting :=
  by unfold countTick; dsimp only; split <;> rfl
@[simp] theorem countTick_mem (s : State) : (countTick s).mem = s.mem :=
  by unfold countTick; dsimp only; split <;> rfl
@[simp] theorem countTick_devRegs (s : State) : (countTick s).devRegs = s.devRegs :=
  by unfold countTick; dsimp only; split <;> rfl
@[simp] theorem countTick_codeWords (s : State) : (countTick s).codeWords = s.codeWords :=
  by unfold countTick; dsimp only; split <;> rfl
@[simp] theorem countTick_hazards (s : State) : (countTick s).hazards = s.hazards :=
  by unfold countTick; dsimp only; split <;> rfl
@[simp] theorem countTick_staleStatus (s : State) : (countTick s).staleStatus = s.staleStatus :=
  by unfold countTick; dsimp only; split <;> rfl
@[simp] theorem countTick_intReq (s : State) : (countTick s).intReq = s.intReq :=
  by unfold countTick; dsimp only; split <;> rfl
@[simp] theorem countTick_schedule (s : State) : (countTick s).schedule = s.schedule :=
  by unfold countTick; dsimp only; split <;> rfl
@[simp] theorem countTick_freeIdx (s : State) : (countTick s).freeIdx = s.freeIdx :=
  by unfold countTick; dsimp only; split <;> rfl
@[simp] theorem countTick_cfg (s : State) : (countTick s).cfg = s.cfg :=
  by unfold countTick; dsimp only; split <;> rfl

/-! ### placeFetchWord -/

@[simp] theorem placeFetchWord_gprs (s : State) (w : Word) : (placeFetchWord s w).gprs = s.gprs := rfl
@[simp] theorem placeFetchWord_hi (s : State) (w : Word) : (placeFetchWord s w).hi = s.hi := rfl
@[simp] theorem placeFetchWord_lo (s : State) (w : Word) : (placeFetchWord s w).lo = s.lo := rfl
@[simp] theorem placeFetchWord_pc (s : State) (w : Word) : (placeFetchWord s w).pc = s.pc := rfl
@[simp] theorem placeFetchWord_isaMode (s : State) (w : Word) : (placeFetchWord s w).isaMode = s.isaMode := rfl
@[simp] theorem placeFetchWord_delaySlot (s : State) (w : Word) : (placeFetchWord s w).delaySlot = s.delaySlot := rfl
@[simp] theorem placeFetchWord_llbit (s : State) (w : Word) : (placeFetchWord s w).llbit = s.llbit := rfl
@[simp] theorem placeFetchWord_waiting (s : State) (w : Word) : (placeFetchWord s w).waiting = s.waiting := rfl
@[simp] theorem placeFetchWord_cp0 (s : State) (w : Word) : (placeFetchWord s w).cp0 = s.cp0 := rfl
@[simp] theorem placeFetchWord_devRegs (s : State) (w : Word) : (placeFetchWord s w).devRegs = s.devRegs := rfl
@[simp] theorem placeFetchWord_hazards (s : State) (w : Word) : (placeFetchWord s w).hazards = s.hazards := rfl
@[simp] theorem placeFetchWord_staleStatus (s : State) (w : Word) : (placeFetchWord s w).staleStatus = s.staleStatus :=
  rfl
@[simp] theorem placeFetchWord_intReq (s : State) (w : Word) : (placeFetchWord s w).intReq = s.intReq := rfl
@[simp] theorem placeFetchWord_freeIdx (s : State) (w : Word) : (placeFetchWord s w).freeIdx = s.freeIdx := rfl
@[simp] theorem placeFetchWord_cfg (s : State) (w : Word) : (placeFetchWord s w).cfg = s.cfg := rfl

/-! ### The fields an update writes -/

@[simp] theorem State.setHiLo_hi (s : State) (v : BitVec 64) : (s.setHiLo v).hi = v.extractLsb' 32 32 := rfl
@[simp] theorem State.setHiLo_lo (s : State) (v : BitVec 64) : (s.setHiLo v).lo = v.extractLsb' 0 32 := rfl
@[simp] theorem State.drawn_freeIdx (s : State) (n : Nat) : (s.drawn n).freeIdx = s.freeIdx + n := rfl
@[simp] theorem State.freeHiLo_freeIdx (s : State) : s.freeHiLo.freeIdx = s.freeIdx + 2 := rfl
@[simp] theorem State.fullBarrier_hazards (s : State) : s.fullBarrier.hazards = [] := rfl
@[simp] theorem State.fullBarrier_staleStatus (s : State) : s.fullBarrier.staleStatus = [] := rfl
@[simp] theorem State.fullBarrier_codeWords (s : State) : s.fullBarrier.codeWords = settleCode s.codeWords := rfl
@[simp] theorem State.executionBarrier_hazards (s : State) : s.executionBarrier.hazards = [] := rfl
@[simp] theorem State.ticked_hazards (s : State) : s.ticked.hazards = tickHazards s.hazards := rfl
@[simp] theorem State.advance_delaySlot (s : State) : s.advance.delaySlot = none := by
  cases h : s.delaySlot with
  | none => simp [State.advance, h]
  | some d => cases hb : d.barrier <;> simp [State.advance, h, hb]
theorem State.advance_of_none {s : State} (h : s.delaySlot = none) : s.advance = { s with pc := s.pc + 4#32 } := by
  simp [State.advance, h]
theorem State.advance_of_some {s : State} {d : DelaySlot} (h : s.delaySlot = some d) (hb : d.barrier = false) :
    s.advance = { s with pc := d.target, isaMode := d.isa, delaySlot := none } := by
  simp [State.advance, h, hb]
theorem State.advance_of_barrier {s : State} {d : DelaySlot} (h : s.delaySlot = some d) (hb : d.barrier = true) :
    s.advance = { s with pc := d.target, isaMode := d.isa, delaySlot := none }.fullBarrier := by
  simp [State.advance, h, hb]
@[simp] theorem State.goto_pc (s : State) (target : Word) : (s.goto target).pc = target := rfl
@[simp] theorem State.branchVia_pc (s : State) (target : Word) (isa barrier : Bool) :
    (s.branchVia target isa barrier).pc = s.pc + 4#32 := rfl
@[simp] theorem State.branchVia_delaySlot (s : State) (target : Word) (isa barrier : Bool) :
    (s.branchVia target isa barrier).delaySlot =
      some { branch := s.pc, target := target, isa := isa, barrier := barrier } := rfl
@[simp] theorem State.redirect_pc (s : State) (target : Word) (isa : Bool) : (s.redirect target isa).pc = target := rfl
@[simp] theorem State.redirect_isaMode (s : State) (target : Word) (isa : Bool) :
    (s.redirect target isa).isaMode = isa := rfl
@[simp] theorem State.redirect_delaySlot (s : State) (target : Word) (isa : Bool) :
    (s.redirect target isa).delaySlot = none := rfl
@[simp] theorem State.redirect_hazards (s : State) (target : Word) (isa : Bool) :
    (s.redirect target isa).hazards = [] := rfl
@[simp] theorem State.redirect_staleStatus (s : State) (target : Word) (isa : Bool) :
    (s.redirect target isa).staleStatus = [] := rfl
@[simp] theorem State.storeRam_mem (s : State) (wa : Nat) (w : LaneStore) :
    (s.storeRam wa w).mem = writeLanes s.mem wa w.enable w.data := rfl
@[simp] theorem State.storeRam_codeWords (s : State) (wa : Nat) (w : LaneStore) :
    (s.storeRam wa w).codeWords = markCode s.codeWords wa .stored := rfl
@[simp] theorem State.withCp0_cp0 (s : State) (c : Cp0) : (s.withCp0 c).cp0 = c := rfl
@[simp] theorem enterException_cp0 (e : Exc) (s : State) : (enterException e s).cp0 = exceptionCp0 e s := rfl
@[simp] theorem enterException_pc (e : Exc) (s : State) :
    (enterException e s).pc = exceptionBase s.cp0 + exceptionOffset e s.cp0 s.intReq := rfl
@[simp] theorem raise_delaySlot (e : Exc) (s : State) : (raise e s).delaySlot = none := by
  unfold raise; split <;> rfl
@[simp] theorem raise_hazards (e : Exc) (s : State) : (raise e s).hazards = [] := by
  unfold raise; split <;> rfl
@[simp] theorem raise_staleStatus (e : Exc) (s : State) : (raise e s).staleStatus = [] := by
  unfold raise; split <;> rfl

/-! ### Registers after an update: a state with the same file and the same current set reads the same -/

/-- `SGPR[set][r]` depends on the register file only. -/
theorem State.regOf_congr {s t : State} (h : t.gprs = s.gprs) (set : SetNum) (r : Reg) : t.regOf set r = s.regOf set r := by
  simp [State.regOf, h]

/-- `GPR[r]` depends on the register file and the current set only. -/
theorem State.reg_congr {s t : State} (h : t.gprs = s.gprs) (hc : t.cp0.srs.css = s.cp0.srs.css) (r : Reg) :
    t.reg r = s.reg r := by
  simp [State.reg, State.regOf, h, hc]

end Sys2Proof.Machine
end

