-- ==== Sys2Proof/Laws/Registers.lean ====
section
/-! SUPPORT. Sys2Proof/Laws/Registers.lean: reading a general register after a write (10_state.md R20 to R23). -/

namespace Sys2Proof.Machine

open Sys2Proof

/-- The place of a register is its set and number. -/
theorem gprIndex_val (set : SetNum) (r : Reg) : (gprIndex set r).val = set.toNat * 32 + r.toNat := by
  have h := r.isLt
  show (set ++ r).toNat = _
  rw [BitVec.toNat_append, ← Nat.shiftLeft_add_eq_or_of_lt h, Nat.shiftLeft_eq]

/-- Different registers have different places. -/
theorem gprIndex_inj {set set' : SetNum} {r r' : Reg} (h : gprIndex set r = gprIndex set' r') : set = set' ∧ r = r' := by
  have hv := congrArg Fin.val h
  rw [gprIndex_val, gprIndex_val] at hv
  have h1 := r.isLt
  have h2 := r'.isLt
  exact ⟨BitVec.eq_of_toNat_eq (by omega), BitVec.eq_of_toNat_eq (by omega)⟩

/-- r0 reads 0 in every set (R21). -/
@[simp] theorem State.regOf_zero (s : State) (set : SetNum) : s.regOf set 0#5 = 0#32 := rfl

/-- r0 reads 0 (R21). -/
@[simp] theorem State.reg_zero (s : State) : s.reg 0#5 = 0#32 := rfl

/-- Reading a register after a write: r0 is never written (R21). -/
theorem State.regOf_setRegOf (s : State) (set set' : SetNum) (r r' : Reg) (v : Word) :
    (s.setRegOf set r v).regOf set' r' = if set' = set ∧ r' = r ∧ r ≠ 0#5 then v else s.regOf set' r' := by
  unfold State.setRegOf
  by_cases h0 : r = 0#5
  · simp [h0]
  · simp only [h0, if_false, ne_eq, not_false_eq_true, and_true]
    unfold State.regOf
    by_cases h : set' = set ∧ r' = r
    · obtain ⟨rfl, rfl⟩ := h
      simp [h0]
    · rw [if_neg h]
      split
      · rfl
      · have hne : (gprIndex set r).val ≠ (gprIndex set' r').val := by
          intro e
          obtain ⟨h1, h2⟩ := gprIndex_inj (Fin.ext e)
          exact h ⟨h1.symm, h2.symm⟩
        simp only [Fin.getElem_fin]
        rw [Vector.getElem_set_ne _ _ hne]

/-- Reading a register of the current set after a write to it. -/
theorem State.reg_setReg (s : State) (r r' : Reg) (v : Word) :
    (s.setReg r v).reg r' = if r' = r ∧ r ≠ 0#5 then v else s.reg r' := by
  simp [State.reg, State.setReg, State.regOf_setRegOf]

/-- The write to a register keeps r0 of every set at 0 in the file. -/
theorem zeroRegisters_setRegOf (s : State) (set : SetNum) (r : Reg) (v : Word)
    (h : ∀ set', s.gprs[gprIndex set' 0#5] = 0#32) (set' : SetNum) :
    (s.setRegOf set r v).gprs[gprIndex set' 0#5] = 0#32 := by
  unfold State.setRegOf
  split
  · exact h set'
  · next h0 =>
    have hne : (gprIndex set r).val ≠ (gprIndex set' 0#5).val := fun e => h0 (gprIndex_inj (Fin.ext e)).2
    simp only [Fin.getElem_fin]
    rw [Vector.getElem_set_ne _ _ hne]
    exact h set'

end Sys2Proof.Machine
end

