-- ==== Sys2Proof/Laws/Frames.lean ====
section
/-! SUPPORT. Sys2Proof/Laws/Frames.lean: the frames of Safety.lean hold of the shared ways in which an instruction
completes. -/

namespace Sys2Proof.Machine

open Sys2Proof

/-! ## Moving on -/

/-- Where execution moves on to depends only on the program counter, the mode, the pending branch and the hazards. -/
theorem MovesOn.advance_of_eq {s u : State} (hp : u.pc = s.pc) (hi : u.isaMode = s.isaMode)
    (hd : u.delaySlot = s.delaySlot) (hh : u.hazards = s.hazards) (hs : u.staleStatus = s.staleStatus) :
    MovesOn s u.advance := by
  refine ⟨?_, ?_, u.advance_delaySlot, ?_, ?_⟩ <;>
  · unfold State.advance
    rw [hd]
    split
    · simp only [hp, hi, hh, hs]
    · dsimp only
      split <;> simp only [State.fullBarrier, hh, hs]

/-- The marks on stored words after an instruction depend only on the pending branch and the marks before. -/
theorem State.advance_codeWords_of_eq {s u : State} (hd : u.delaySlot = s.delaySlot) (hc : u.codeWords = s.codeWords) :
    u.advance.codeWords = s.advance.codeWords := by
  unfold State.advance
  rw [hd]
  split
  · exact hc
  · dsimp only
    split <;> simp only [State.fullBarrier, hc]

/-- Moving on changes no register, no byte of memory and no other data. -/
theorem SystemSame.advance_of_eq {s u : State} (hl : u.llbit = s.llbit) (hw : u.waiting = s.waiting)
    (hc : u.cp0 = s.cp0) (hm : ∀ a, readByte u.mem a = readByte s.mem a) (hd : u.devRegs = s.devRegs)
    (hi : u.intReq = s.intReq) (hs : u.schedule = s.schedule) (hf : u.cfg = s.cfg) : SystemSame s u.advance := by
  constructor <;> simpa

/-- The registers of every set after moving on. -/
@[simp] theorem State.regOf_advance (s : State) (set : SetNum) (r : Reg) : s.advance.regOf set r = s.regOf set r := by
  simp [State.regOf]

/-- `GPR[r] <- v` writes that register alone. -/
theorem OnlyReg.setRegOf (s : State) (set : SetNum) (r : Reg) (v : Word) : OnlyReg set r v s (s.setRegOf set r v) := by
  constructor
  · rw [State.regOf_setRegOf]
    by_cases h : r = 0#5
    · subst h; simp
    · simp [h]
  · intro set' r' h
    rw [State.regOf_setRegOf, if_neg (fun hc => h ⟨hc.1, hc.2.1⟩)]

/-! ## The ways an instruction completes -/

/-- An instruction that writes a register and completes. -/
theorem WritesReg.setReg_advance (s : State) (r : Reg) (v : Word) : WritesReg r v s (s.setReg r v).advance := by
  refine ⟨⟨?_, ?_⟩, ⟨by simp, by simp, by simp⟩, SystemSame.advance_of_eq (by simp) (by simp) (by simp) (by simp)
    (by simp) (by simp) (by simp) (by simp), MovesOn.advance_of_eq (by simp) (by simp) (by simp) (by simp) (by simp),
    State.advance_codeWords_of_eq (by simp) (by simp)⟩
  · simpa [State.setReg] using (OnlyReg.setRegOf s s.cp0.srs.css r v).1
  · simpa [State.setReg] using (OnlyReg.setRegOf s s.cp0.srs.css r v).2

/-- An instruction that only completes. -/
theorem NoEffect.advance (s : State) : NoEffect s s.advance :=
  ⟨fun _ _ => by simp, ⟨by simp, by simp, by simp⟩, SystemSame.advance_of_eq rfl rfl rfl (fun _ => rfl) rfl rfl rfl rfl,
    MovesOn.advance_of_eq rfl rfl rfl rfl rfl, rfl⟩

/-- An instruction that writes HI and LO and completes. -/
theorem WritesHiLo.advance (s : State) (h l : Word) : WritesHiLo h l s { s with hi := h, lo := l }.advance :=
  ⟨by simp, by simp, by simp, fun set r => by simp [State.regOf],
    SystemSame.advance_of_eq rfl rfl rfl (fun _ => rfl) rfl rfl rfl rfl, MovesOn.advance_of_eq rfl rfl rfl rfl rfl,
    State.advance_codeWords_of_eq rfl rfl⟩

/-- An instruction whose meaning is `completeReg`. -/
theorem Completes.of_completeReg {i : Instr} {s : State} {r : Reg} {v : Word} (h : exec i s = completeReg s r v) :
    Completes i s (WritesReg r v s) := ⟨_, h, WritesReg.setReg_advance s r v⟩

/-- An instruction whose meaning is `complete`. -/
theorem Completes.of_complete {i : Instr} {s : State} (h : exec i s = complete s) : Completes i s (NoEffect s) :=
  ⟨_, h, NoEffect.advance s⟩

/-- An instruction whose meaning writes HI and LO. -/
theorem Completes.of_setHiLo {i : Instr} {s : State} {v : BitVec 64} (h : exec i s = complete (s.setHiLo v)) :
    Completes i s (WritesHiLo (v.extractLsb' 32 32) (v.extractLsb' 0 32) s) := ⟨_, h, WritesHiLo.advance s _ _⟩

/-! ## Control transfers -/

/-- A branch or jump, its delay slot next and its target after it (42_jump_branch.md R340). -/
theorem SlotThen.branchVia (s : State) (target : Word) (isa barrier : Bool) :
    SlotThen target isa barrier s (s.branchVia target isa barrier) := by
  refine ⟨rfl, rfl, rfl, ?_, ?_, by simp, ?_⟩
  · cases barrier <;> rfl
  · cases barrier <;> rfl
  · intro h
    subst h
    exact ⟨rfl, rfl, codeStateAt_settleCode_ne s.codeWords⟩

/-- A branch or jump leaves everything else alone. -/
theorem TransferFrame.branchVia (s : State) (target : Word) (isa barrier : Bool) :
    TransferFrame s (s.branchVia target isa barrier) :=
  ⟨⟨rfl, rfl, rfl⟩, ⟨rfl, rfl, rfl, fun _ => rfl, rfl, rfl, rfl, rfl⟩, rfl, rfl, rfl⟩

/-! ## Exceptions -/

/-- Taking an exception leaves what R480 calls "Not changed" unchanged, in Debug mode too. -/
theorem EntryFrame.raise (e : Exc) (s : State) : EntryFrame s (raise e s) :=
  ⟨fun _ _ => by simp [State.regOf], by simp, by simp, by simp, by simp, fun _ => by simp, by simp, by simp, by simp, by simp,
    by simp⟩

end Sys2Proof.Machine
end

