-- ==== Sys2Proof/Laws/Ops.lean ====
section
/-! SUPPORT. Sys2Proof/Laws/Ops.lean: for each shared operation, what it can do, said once: later proofs cite these
and do not unfold the operation. -/

namespace Sys2Proof.Machine

open Sys2Proof

/-! ## Completing -/

@[simp] theorem complete_eq (s : State) : complete s = .next s.advance := rfl

@[simp] theorem completeReg_eq (s : State) (r : Reg) (v : Word) : completeReg s r v = .next (s.setReg r v).advance := rfl

/-- A trap instruction takes Tr or moves on. -/
theorem trapIf_eq (c : Bool) (s : State) : trapIf c s = if c then takeException .tr s else .next s.advance := rfl

/-- A control transfer that answers is outside a delay slot. -/
theorem outsideSlot_next {s u : State} {o : Out} (h : outsideSlot s o = .next u) : s.delaySlot = none ∧ o = .next u := by
  unfold outsideSlot at h
  split at h
  · cases h
  · next hs => exact ⟨by simpa using hs, h⟩

theorem outsideSlot_of_none {s : State} (o : Out) (h : s.delaySlot = none) : outsideSlot s o = o := by
  simp [outsideSlot, h]

theorem outsideSlot_of_some {s : State} {d : DelaySlot} (o : Out) (h : s.delaySlot = some d) :
    outsideSlot s o = .refused .controlInDelaySlot := by
  simp [outsideSlot, h]

theorem controlTransfer_next {s t u : State} (h : controlTransfer s t = .next u) : s.delaySlot = none ∧ u = t :=
  (outsideSlot_next h).imp id fun h => by cases h; rfl

theorem controlTransfer_of_none {s : State} (t : State) (h : s.delaySlot = none) : controlTransfer s t = .next t :=
  outsideSlot_of_none _ h

theorem controlTransfer_of_some {s : State} {d : DelaySlot} (t : State) (h : s.delaySlot = some d) :
    controlTransfer s t = .refused .controlInDelaySlot := outsideSlot_of_some _ h

/-- A linking transfer that answers is outside a delay slot and does not read its link register. -/
theorem linkingTransfer_next {a b : Reg} {s t u : State} (h : linkingTransfer a b s t = .next u) :
    a ≠ b ∧ s.delaySlot = none ∧ u = t := by
  unfold linkingTransfer at h
  split at h
  · cases h
  · next hab => exact ⟨hab, controlTransfer_next h⟩

theorem linkingTransfer_of_none {a b : Reg} {s : State} (t : State) (hab : a ≠ b) (h : s.delaySlot = none) :
    linkingTransfer a b s t = .next t := by
  simp [linkingTransfer, hab, controlTransfer_of_none t h]

/-! ## What a pending write lets an instruction see -/

/-- With no hazard pending, Coprocessor 0 is seen as it is. -/
theorem State.views_of_none {s : State} (h : s.hazards = []) : s.views = [s.cp0] := by
  simp [State.views, viewsThrough, h]

theorem State.sees_of_none {α : Type} [DecidableEq α] {s : State} (f : Cp0 → α) (h : s.hazards = []) :
    s.sees f = false := by
  simp [State.sees, State.views_of_none h]

/-- A value that was seen before a hazard is looked at is seen after it. -/
theorem mem_viewsThrough {c : Cp0} (l : List Hazard) {vs : List Cp0} (h : c ∈ vs) :
    c ∈ l.foldl (fun vs h => vs ++ vs.flatMap h.view) vs := by
  induction l generalizing vs with
  | nil => exact h
  | cons x l ih => exact ih (List.mem_append_left _ h)

/-- The new value of everything may be seen. -/
theorem State.cp0_mem_views (s : State) : s.cp0 ∈ s.views := mem_viewsThrough s.hazards (List.mem_singleton_self _)

/-- What is no function of a value that a hazard lets an instruction see depends on no pending write. -/
theorem State.sees_eq_false_iff {α : Type} [DecidableEq α] {s : State} {f : Cp0 → α} :
    s.sees f = false ↔ ∀ c ∈ s.views, f c = f s.cp0 := by
  simp [State.sees]

/-- Fewer hazards let an instruction see no more: what is seen through some of them is seen through all. -/
theorem viewsThrough_filter_subset (p : Hazard → Bool) (l : List Hazard) {vs ws : List Cp0} (h : ∀ c ∈ vs, c ∈ ws) :
    ∀ c ∈ (l.filter p).foldl (fun vs h => vs ++ vs.flatMap h.view) vs,
      c ∈ l.foldl (fun vs h => vs ++ vs.flatMap h.view) ws := by
  induction l generalizing vs ws with
  | nil => exact h
  | cons x l ih =>
    cases hp : p x
    · rw [List.filter_cons_of_neg (by simp [hp])]
      exact ih fun c hc => List.mem_append_left _ (h c hc)
    · rw [List.filter_cons_of_pos hp]
      refine ih fun c hc => ?_
      simp only [List.mem_append, List.mem_flatMap] at hc ⊢
      exact hc.imp (h c) fun ⟨d, hd, hx⟩ => ⟨d, h d hd, hx⟩

/-- Where no pending write decides whether Coprocessor 0 is usable, none does so for ERET. -/
theorem eretUseHazard_eq_false {s : State} (h : cop0Hazard s = false) : eretUseHazard s = false := by
  have same : ∀ c ∈ s.views, cop0UsableUnder c = cop0UsableUnder s.cp0 := State.sees_eq_false_iff.mp h
  simp only [eretUseHazard, List.any_eq_false, bne_iff_ne, ne_eq, not_not]
  exact fun c hc => same c (viewsThrough_filter_subset _ s.hazards (fun _ hv => hv) c hc)

/-! ## Taking an exception -/

theorem entryHazard_of_none {s : State} (e : Exc) (h : s.hazards = []) : entryHazard e s = false := by
  simp [entryHazard, State.sees_of_none _ h]

theorem entryHazard_inDebug {s : State} (e : Exc) (h : s.cp0.dbg.dm = true) : entryHazard e s = false := by
  simp [entryHazard, h]

/-- `takeException` is the entry, or the refusal of an entry that depends on a pending write. -/
theorem takes_takeException (e : Exc) (s : State) : Takes (takeException e s) e s :=
  ⟨fun h => by simp [takeException, h], fun h => by simp [takeException, h]⟩

/-- An exception that is taken depends on no pending write, and the state after it is that of the entry. -/
theorem takeException_next {e : Exc} {s t : State} (h : takeException e s = .next t) :
    entryHazard e s = false ∧ t = raise e s := by
  unfold takeException at h
  split at h
  · cases h
  · next hh => exact ⟨by simpa using hh, by cases h; rfl⟩

theorem takeException_of_none {s : State} (e : Exc) (h : s.hazards = []) : takeException e s = .next (raise e s) :=
  (takes_takeException e s).taken (entryHazard_of_none e h)

/-- Debug mode is entered only where `DebugEntry` says so. -/
theorem takeDebug_next {c : DebugCause} {s t : State} (h : takeDebug c s = .next t) :
    s.cfg.debugEntry = .enter ∧ t = enterDebug c s := by
  unfold takeDebug at h
  split at h
  · cases h
  · next he => exact ⟨he, by cases h; rfl⟩

/-- A trap instruction that answers took Tr, or had no effect. -/
theorem trapIf_next {c : Bool} {s t : State} (h : trapIf c s = .next t) :
    (c = true ∧ t = raise .tr s) ∨ (c = false ∧ t = s.advance) := by
  cases c
  · exact .inr ⟨rfl, by cases h; rfl⟩
  · exact .inl ⟨rfl, (takeException_next h).2⟩

/-- The entry does not depend on the scoreboard, which it clears. -/
theorem raise_ticked (e : Exc) (s : State) : raise e s.ticked = raise e s := rfl

/-! ## Coprocessor usability -/

theorem withCop0_usable {s : State} (o : Out) (h : s.cop0Usable = true) : withCop0 s o = o := by simp [withCop0, h]

theorem withCop0_unusable {s : State} (o : Out) (h : s.cop0Usable = false) :
    withCop0 s o = takeException (.cpu 0#2) s := by simp [withCop0, h]

/-- A Coprocessor 0 instruction that answers took CpU, or Coprocessor 0 is usable. -/
theorem withCop0_next {s t : State} {o : Out} (h : withCop0 s o = .next t) :
    (s.cop0Usable = false ∧ t = raise (.cpu 0#2) s) ∨ (s.cop0Usable = true ∧ o = .next t) := by
  cases hu : s.cop0Usable
  · rw [withCop0_unusable o hu] at h
    exact .inl ⟨rfl, (takeException_next h).2⟩
  · rw [withCop0_usable o hu] at h
    exact .inr ⟨rfl, h⟩

/-! ## Exceptions -/

theorem raise_outside {s : State} (e : Exc) (h : s.cp0.dbg.dm = false) : raise e s = enterException e s := by
  simp [raise, h]

theorem raise_inDebug {s : State} (e : Exc) (h : s.cp0.dbg.dm = true) : raise e s = reenterDebug e s := by
  simp [raise, h]

/-- Outside Debug mode an exception sets EXL and keeps the rest of Status (60_exceptions.md R483). -/
theorem enterException_status (e : Exc) (s : State) :
    (enterException e s).cp0.status = { s.cp0.status with exl := true } := rfl

/-! ## The data access -/

/-- The checks of an access succeed exactly where `AccessOk` holds. -/
theorem checkAccess_ok_iff (kind : DataKind) (n : Nat) (va : Word) (s : State) (pa : Word) :
    checkAccess kind n va s = .ok pa ↔ AccessOk n va s pa := by
  constructor
  · intro h
    unfold checkAccess at h
    split at h
    · cases h
    · next h1 =>
      split at h
      · cases h
      · next h2 =>
        split at h
        · cases h
        · next h3 =>
          split at h
          · cases h
          · next h4 =>
            cases h
            refine ⟨by omega, fun hu => ?_, fun hu => ?_, fun hd hv => ?_, rfl⟩
            · simpa [hu] using h2
            · simpa [hu] using h3
            · simpa [hd, hv] using h4
  · rintro ⟨h1, h2, h3, h4, rfl⟩
    unfold checkAccess
    rw [if_neg (by omega)]
    rw [if_neg (by
      intro h
      rw [Bool.and_eq_true] at h
      rw [h2 h.1] at h
      exact absurd h.2 (by decide))]
    rw [if_neg (by
      intro h
      rw [Bool.and_eq_true] at h
      rw [h3 h.1] at h
      exact absurd h.2 (by decide))]
    rw [if_neg (by
      intro h
      rw [Bool.and_eq_true, Bool.and_eq_true] at h
      rw [h4 h.1.1 h.1.2] at h
      exact absurd h.2 (by decide))]

/-- An access that is trapped takes its address error. -/
theorem checkAccess_trap {kind : DataKind} {n : Nat} {va : Word} {s : State} {e : Exc}
    (h : checkAccess kind n va s = .trap e) : e = kind.addressError va := by
  unfold checkAccess at h
  split at h
  · cases h; rfl
  · split at h
    · cases h; rfl
    · split at h
      · cases h
      · split at h <;> cases h

/-- A load of storage gives the aligned word. -/
theorem withLoad_storage {n : Nat} {va : Word} {s : State} {pa : Word} (k : Word → State → Out)
    (h : AccessOk n va s pa) (hs : LoadsStorage s pa) :
    withLoad n va s k = k (readWord s.mem (wordAddr pa)) s := by
  unfold withLoad
  rw [(checkAccess_ok_iff .load n va s pa).mpr h]
  rcases hs with hs | hs <;> simp only [hs]

/-- A load that answers took an exception, or completed in the state before it or one with a free value drawn. -/
theorem withLoad_next {n : Nat} {va : Word} {s t : State} {k : Word → State → Out} (h : withLoad n va s k = .next t) :
    (∃ e, t = raise e s) ∨ ∃ w s', (s' = s ∨ s' = s.drawn 1) ∧ k w s' = .next t := by
  unfold withLoad at h
  split at h
  · next e _ => exact .inl ⟨e, (takeException_next h).2⟩
  · cases h
  · split at h
    · exact .inr ⟨_, s, .inl rfl, h⟩
    · exact .inr ⟨_, s, .inl rfl, h⟩
    · exact .inr ⟨_, s, .inl rfl, h⟩
    · exact .inr ⟨_, _, .inr rfl, h⟩
    · exact .inr ⟨_, _, .inr rfl, h⟩
    · exact .inr ⟨_, _, .inr rfl, h⟩
    · unfold dataBusError at h
      split at h
      · cases h
      · exact .inl ⟨_, (takeException_next h).2⟩

/-- A store to RAM writes the enabled lanes after the instruction is complete. -/
theorem withStore_ram {n : Nat} {va : Word} {s : State} {pa : Word} (w : LaneStore) (k : State → State)
    (h : AccessOk n va s pa) (hs : storeTarget s.cfg (wordAddr pa) = .ram) :
    withStore n va w s k = .next ((k s).storeRam (wordAddr pa) w) := by
  unfold withStore
  rw [(checkAccess_ok_iff .store n va s pa).mpr h]
  simp only [hs]

/-- A store to a peripheral register writes it after the instruction is complete. -/
theorem withStore_device {n : Nat} {va : Word} {s : State} {pa : Word} {reg : Nat} {kind : RegKind} (w : LaneStore)
    (k : State → State) (h : AccessOk n va s pa) (hs : storeTarget s.cfg (wordAddr pa) = .device reg kind) :
    withStore n va w s k = .next ((k s).storeDevice reg kind w) := by
  unfold withStore
  rw [(checkAccess_ok_iff .store n va s pa).mpr h]
  simp only [hs]

/-- A store that answers took an exception, or wrote RAM or a peripheral register. -/
theorem withStore_next {n : Nat} {va : Word} {w : LaneStore} {s t : State} {k : State → State}
    (h : withStore n va w s k = .next t) :
    (∃ e, t = raise e s) ∨ (∃ wa, t = (k s).storeRam wa w) ∨ ∃ reg kind, t = (k s).storeDevice reg kind w := by
  unfold withStore at h
  split at h
  · next e _ => exact .inl ⟨e, (takeException_next h).2⟩
  · cases h
  · split at h
    · cases h; exact .inr (.inl ⟨_, rfl⟩)
    · cases h
    · cases h; exact .inr (.inr ⟨_, _, rfl⟩)
    · unfold dataBusError at h
      split at h
      · cases h
      · exact .inl ⟨_, (takeException_next h).2⟩

/-! ## Lanes -/

/-- Byte lane `k` of the word read at a word address is the byte of memory at that place (20_memory.md R124). -/
theorem byteLane_readWord (m : List Host.Cell) (wa k : Nat) (hk : k < 4) :
    byteLane (readWord m wa) k = readByte m (wa + k) := by
  have : k = 0 ∨ k = 1 ∨ k = 2 ∨ k = 3 := by omega
  unfold byteLane readWord wordOfBytes
  rcases this with rfl | rfl | rfl | rfl
  · rw [BitVec.extractLsb'_append_eq_of_add_le (by decide)]
    exact BitVec.extractLsb'_eq_self
  · rw [BitVec.extractLsb'_append_eq_of_le (by decide), BitVec.extractLsb'_append_eq_of_add_le (by decide)]
    exact BitVec.extractLsb'_eq_self
  · iterate 2 rw [BitVec.extractLsb'_append_eq_of_le (by decide)]
    rw [BitVec.extractLsb'_append_eq_of_add_le (by decide)]
    exact BitVec.extractLsb'_eq_self
  · iterate 3 rw [BitVec.extractLsb'_append_eq_of_le (by decide)]
    exact BitVec.extractLsb'_eq_self

/-- `byteOf` and `byteLane` are the same function. -/
theorem byteOf_eq_byteLane (w : Word) (k : Nat) : byteOf w k = byteLane w k := rfl

/-- A word is its four byte lanes. -/
theorem wordOfBytes_byteLanes (w : Word) :
    wordOfBytes (byteLane w 0) (byteLane w 1) (byteLane w 2) (byteLane w 3) = w := by
  unfold byteLane wordOfBytes
  iterate 3 rw [BitVec.extractLsb'_append_extractLsb'_eq_extractLsb' (by decide)]
  exact BitVec.extractLsb'_eq_self

/-- A physical address is its word address and its lane. -/
theorem wordAddr_add_laneOf (a : Word) : wordAddr a + laneOf a = a.toNat := by
  unfold wordAddr laneOf; omega

/-- The translation keeps the place inside the aligned word (20_memory.md R129). -/
theorem laneOf_translate (erl : Bool) (va : Word) : laneOf (translate erl va) = laneOf va := by
  have := va.isLt
  unfold laneOf translate
  split
  · split
    · rfl
    · rw [BitVec.toNat_add]; simp only [BitVec.toNat_ofNat]; omega
  · split
    · rw [BitVec.toNat_sub]; simp only [BitVec.toNat_ofNat]; omega
    · split
      · rw [BitVec.toNat_sub]; simp only [BitVec.toNat_ofNat]; omega
      · rfl

/-! ## The scoreboard -/

/-- A step of the scoreboard keeps its counters at most 4. -/
theorem tickHazards_ok (l : List Hazard) (h : hazardsOk l = true) : hazardsOk (tickHazards l) = true := by
  simp only [hazardsOk, tickHazards, List.all_eq_true, List.mem_map, List.mem_filter] at h ⊢
  rintro x ⟨y, ⟨hy, hlt⟩, rfl⟩
  have := h y hy
  simp only [decide_eq_true_eq] at this hlt ⊢
  omega

/-! ## One step -/

/-- What a step of the running core answers outside MIPS16e mode and with no single step due. -/
theorem whenRunning_of {s : State} (o : Out) (h1 : s.isaMode = false) (h2 : singleStepDue s = false) :
    whenRunning s o = o := by
  simp [whenRunning, mips32Only, h1, h2]

/-- The running core answers only in MIPS32 mode, and with no single step due. -/
theorem whenRunning_next {s t : State} {o : Out} (h : whenRunning s o = .next t) :
    s.isaMode = false ∧ singleStepDue s = false ∧ o = .next t := by
  unfold whenRunning mips32Only at h
  split at h
  · cases h
  · next h1 =>
    split at h
    · cases h
    · next h2 => exact ⟨by simpa using h1, by simpa using h2, h⟩

/-- In MIPS16e mode the core does nothing (45_mips16e.md R465, R466). -/
theorem whenRunning_mips16e {s : State} (o : Out) (h : s.isaMode = true) : whenRunning s o = .refused .mips16e := by
  simp [whenRunning, mips32Only, h]

/-! ## Reset -/

/-- The reset state meets the canonical form of its stores. -/
theorem reset_canonicalStores : canonicalStores State.reset = true := by decide

end Sys2Proof.Machine
end

