-- ==== Sys2Proof/Tests/Slice0.lean ====
section
/-! SUPPORT. Sys2Proof/Tests/Slice0.lean: checks of the model against the spec's own words and vectors
(the examples of 40_load_store.md to 44_coprocessor.md, 95_test_vectors.md), and a state that meets the hypotheses of
each statement. -/

namespace Sys2Proof.Tests

open Sys2Proof Sys2Proof.Machine

/-! ## Helpers -/

/-- The start state of the vectors (95_test_vectors.md): Kernel mode, Status 0, Ebase 0x9D001000, at 0x9D000000. -/
def start : State :=
  { State.reset with
    pc := 0x9D000000#32
    cp0 := { Cp0.reset with
      status := { Status.reset with bev := false, sr := false, erl := false }
      ebase := 0x1D001#18 } }

/-- The registers of the current set at some values. -/
def withRegs (l : List (Reg × Word)) (s : State) : State := l.foldl (fun s c => s.setReg c.1 c.2) s

/-- Status at a value. -/
def withStatus (v : Status) (s : State) : State := { s with cp0 := { s.cp0 with status := v } }

/-- Bytes at physical address 0x1000 (virtual 0xA0001000). -/
def withBytes (l : List Byte) (s : State) : State :=
  { s with mem := (l.zipIdx 0x1000).foldl (fun m c => writeByte m c.2 c.1) s.mem }

/-- The eight bytes of the load and store vectors, at 0xA0001000. -/
def vectorBytes : List Byte := [0x00#8, 0x11#8, 0x22#8, 0x33#8, 0x44#8, 0x55#8, 0x66#8, 0x77#8]

/-- The bytes at physical address 0x1000 on. -/
def bytesAt (n : Nat) (s : State) : List Byte := (List.range n).map fun k => readByte s.mem (0x1000 + k)

/-- The word run gives a next state with a property. -/
def after (w : Word) (s : State) (p : State → Bool) : Bool :=
  match runDecoded (decode w) s with
  | .next t => p t
  | .fault _ => false
  | .refused _ => false

/-- The word run is refused for a reason. -/
def refusedFor (w : Word) (s : State) (r : Refusal) : Bool :=
  match runDecoded (decode w) s with
  | .refused q => decide (q = r)
  | .next _ => false
  | .fault _ => false

/-- The exception with an EXCCODE was taken from 0x9D000000: EPC, EXL, the general vector (95_test_vectors.md B2). -/
def took (code : BitVec 5) (t : State) : Bool :=
  t.cp0.cause.excCode == code && t.cp0.epc == 0x9D000000#32 && t.cp0.status.exl && t.pc == 0x9D001180#32

/-- The parameter that admits Debug mode. -/
def admitDebug (s : State) : State := { s with cfg := { s.cfg with debugEntry := .enter } }

/-- An MTC0 that changed register `r` from what it is in `old` is one instruction back. -/
def afterWrite (r : Cp0Reg) (old : Cp0) (s : State) : State :=
  { s with hazards := [{ row := .other, reg := r, old := old, left := 1 }] }

/-! ## WellFormed refuses what the spec refuses -/

theorem test_wellFormed_sll_is_nop : (Instr.sll 0#5 0#5 0#5).wellFormed = false := by decide
theorem test_wellFormed_sll_is_ssnop : (Instr.sll 0#5 0#5 1#5).wellFormed = false := by decide
theorem test_wellFormed_sll_is_ehb : (Instr.sll 0#5 0#5 3#5).wellFormed = false := by decide
theorem test_wellFormed_clz : (Instr.clz 1#5 3#5 2#5).wellFormed = false := by decide
theorem test_wellFormed_clo : (Instr.clo 1#5 3#5 2#5).wellFormed = false := by decide
theorem test_wellFormed_ext : (Instr.ext 1#5 2#5 31#5 1#5).wellFormed = false := by decide
theorem test_wellFormed_ins : (Instr.ins 1#5 2#5 0#5 8#5).wellFormed = false := by decide
theorem test_wellFormed_jalr : (Instr.jalr 5#5 5#5).wellFormed = false := by decide
theorem test_wellFormed_jalrHb : (Instr.jalrHb 5#5 5#5).wellFormed = false := by decide
theorem test_wellFormed_bltzal : (Instr.bltzal 31#5 4#16).wellFormed = false := by decide
theorem test_wellFormed_bgezal : (Instr.bgezal 31#5 4#16).wellFormed = false := by decide
theorem test_wellFormed_bltzall : (Instr.bltzall 31#5 4#16).wellFormed = false := by decide
theorem test_wellFormed_bgezall : (Instr.bgezall 31#5 4#16).wellFormed = false := by decide

/-! ## Decoding: one word of every row, most of them the spec's own examples (those of the coprocessor 1 and 2 loads
and stores, TLBR, TLBWR and TLBP are written out from the encodings of R444, R445 and R440) -/

theorem test_decode_lb : decode 0x8082FFFF#32 = .instr (.lb 4#5 2#5 0xFFFF#16) := by decide
theorem test_decode_lbu : decode 0x90820003#32 = .instr (.lbu 4#5 2#5 3#16) := by decide
theorem test_decode_lh : decode 0x85090002#32 = .instr (.lh 8#5 9#5 2#16) := by decide
theorem test_decode_lhu : decode 0x95090002#32 = .instr (.lhu 8#5 9#5 2#16) := by decide
theorem test_decode_lw : decode 0x8FA80004#32 = .instr (.lw 29#5 8#5 4#16) := by decide
theorem test_decode_lwl : decode 0x88820003#32 = .instr (.lwl 4#5 2#5 3#16) := by decide
theorem test_decode_lwr : decode 0x98820000#32 = .instr (.lwr 4#5 2#5 0#16) := by decide
theorem test_decode_sb : decode 0xA0850000#32 = .instr (.sb 4#5 5#5 0#16) := by decide
theorem test_decode_sh : decode 0xA4850002#32 = .instr (.sh 4#5 5#5 2#16) := by decide
theorem test_decode_sw : decode 0xAFBF0014#32 = .instr (.sw 29#5 31#5 20#16) := by decide
theorem test_decode_swl : decode 0xA8850003#32 = .instr (.swl 4#5 5#5 3#16) := by decide
theorem test_decode_swr : decode 0xB8850000#32 = .instr (.swr 4#5 5#5 0#16) := by decide
theorem test_decode_ll : decode 0xC0820000#32 = .instr (.ll 4#5 2#5 0#16) := by decide
theorem test_decode_sc : decode 0xE0830000#32 = .instr (.sc 4#5 3#5 0#16) := by decide
theorem test_decode_add : decode 0x00221820#32 = .instr (.add 1#5 2#5 3#5) := by decide
theorem test_decode_addu : decode 0x00221821#32 = .instr (.addu 1#5 2#5 3#5) := by decide
theorem test_decode_addi : decode 0x2022FFFF#32 = .instr (.addi 1#5 2#5 0xFFFF#16) := by decide
theorem test_decode_addiu : decode 0x27BDFFE8#32 = .instr (.addiu 29#5 29#5 0xFFE8#16) := by decide
theorem test_decode_sub : decode 0x00221822#32 = .instr (.sub 1#5 2#5 3#5) := by decide
theorem test_decode_subu : decode 0x00221823#32 = .instr (.subu 1#5 2#5 3#5) := by decide
theorem test_decode_slt : decode 0x0022182A#32 = .instr (.slt 1#5 2#5 3#5) := by decide
theorem test_decode_sltu : decode 0x0022182B#32 = .instr (.sltu 1#5 2#5 3#5) := by decide
theorem test_decode_slti : decode 0x2822FFFF#32 = .instr (.slti 1#5 2#5 0xFFFF#16) := by decide
theorem test_decode_sltiu : decode 0x2C22FFFF#32 = .instr (.sltiu 1#5 2#5 0xFFFF#16) := by decide
theorem test_decode_lui : decode 0x3C02BF88#32 = .instr (.lui 2#5 0xBF88#16) := by decide
theorem test_decode_and_ : decode 0x00221824#32 = .instr (.and_ 1#5 2#5 3#5) := by decide
theorem test_decode_or_ : decode 0x00221825#32 = .instr (.or_ 1#5 2#5 3#5) := by decide
theorem test_decode_xor_ : decode 0x00221826#32 = .instr (.xor_ 1#5 2#5 3#5) := by decide
theorem test_decode_nor_ : decode 0x00221827#32 = .instr (.nor_ 1#5 2#5 3#5) := by decide
theorem test_decode_andi : decode 0x3022FF00#32 = .instr (.andi 1#5 2#5 0xFF00#16) := by decide
theorem test_decode_ori : decode 0x34421234#32 = .instr (.ori 2#5 2#5 0x1234#16) := by decide
theorem test_decode_xori : decode 0x3822FFFF#32 = .instr (.xori 1#5 2#5 0xFFFF#16) := by decide
theorem test_decode_sll : decode 0x00011100#32 = .instr (.sll 1#5 2#5 4#5) := by decide
theorem test_decode_srl : decode 0x00011102#32 = .instr (.srl 1#5 2#5 4#5) := by decide
theorem test_decode_sra : decode 0x00011103#32 = .instr (.sra 1#5 2#5 4#5) := by decide
theorem test_decode_sllv : decode 0x00411804#32 = .instr (.sllv 2#5 1#5 3#5) := by decide
theorem test_decode_srlv : decode 0x00411806#32 = .instr (.srlv 2#5 1#5 3#5) := by decide
theorem test_decode_srav : decode 0x00411807#32 = .instr (.srav 2#5 1#5 3#5) := by decide
theorem test_decode_rotr : decode 0x00211202#32 = .instr (.rotr 1#5 2#5 8#5) := by decide
theorem test_decode_rotrv : decode 0x00411846#32 = .instr (.rotrv 2#5 1#5 3#5) := by decide
theorem test_decode_clz : decode 0x70221020#32 = .instr (.clz 1#5 2#5 2#5) := by decide
theorem test_decode_clo : decode 0x70221021#32 = .instr (.clo 1#5 2#5 2#5) := by decide
theorem test_decode_ext : decode 0x7C221A00#32 = .instr (.ext 1#5 2#5 3#5 8#5) := by decide
theorem test_decode_ins : decode 0x7C225A04#32 = .instr (.ins 1#5 2#5 11#5 8#5) := by decide
theorem test_decode_seb : decode 0x7C011420#32 = .instr (.seb 1#5 2#5) := by decide
theorem test_decode_seh : decode 0x7C011620#32 = .instr (.seh 1#5 2#5) := by decide
theorem test_decode_wsbh : decode 0x7C0110A0#32 = .instr (.wsbh 1#5 2#5) := by decide
theorem test_decode_mult : decode 0x00220018#32 = .instr (.mult 1#5 2#5) := by decide
theorem test_decode_multu : decode 0x00220019#32 = .instr (.multu 1#5 2#5) := by decide
theorem test_decode_mul : decode 0x70221802#32 = .instr (.mul 1#5 2#5 3#5) := by decide
theorem test_decode_madd : decode 0x70220000#32 = .instr (.madd 1#5 2#5) := by decide
theorem test_decode_maddu : decode 0x70220001#32 = .instr (.maddu 1#5 2#5) := by decide
theorem test_decode_msub : decode 0x70220004#32 = .instr (.msub 1#5 2#5) := by decide
theorem test_decode_msubu : decode 0x70220005#32 = .instr (.msubu 1#5 2#5) := by decide
theorem test_decode_div : decode 0x0022001A#32 = .instr (.div 1#5 2#5) := by decide
theorem test_decode_divu : decode 0x0022001B#32 = .instr (.divu 1#5 2#5) := by decide
theorem test_decode_mfhi : decode 0x00001810#32 = .instr (.mfhi 3#5) := by decide
theorem test_decode_mflo : decode 0x00001812#32 = .instr (.mflo 3#5) := by decide
theorem test_decode_mthi : decode 0x00200011#32 = .instr (.mthi 1#5) := by decide
theorem test_decode_mtlo : decode 0x00200013#32 = .instr (.mtlo 1#5) := by decide
theorem test_decode_j : decode 0x0B400040#32 = .instr (.j 0x3400040#26) := by decide
theorem test_decode_jal : decode 0x0F400040#32 = .instr (.jal 0x3400040#26) := by decide
theorem test_decode_jr : decode 0x03E00008#32 = .instr (.jr 31#5) := by decide
theorem test_decode_jalr : decode 0x0320F809#32 = .instr (.jalr 25#5 31#5) := by decide
theorem test_decode_jrHb : decode 0x03E00408#32 = .instr (.jrHb 31#5) := by decide
theorem test_decode_jalrHb : decode 0x0320FC09#32 = .instr (.jalrHb 25#5 31#5) := by decide
theorem test_decode_jalx : decode 0x77400040#32 = .instr (.jalx 0x3400040#26) := by decide
theorem test_decode_beq : decode 0x10220004#32 = .instr (.beq 1#5 2#5 4#16) := by decide
theorem test_decode_bne : decode 0x1422FFFE#32 = .instr (.bne 1#5 2#5 0xFFFE#16) := by decide
theorem test_decode_blez : decode 0x18200004#32 = .instr (.blez 1#5 4#16) := by decide
theorem test_decode_bgtz : decode 0x1C200004#32 = .instr (.bgtz 1#5 4#16) := by decide
theorem test_decode_bltz : decode 0x04200004#32 = .instr (.bltz 1#5 4#16) := by decide
theorem test_decode_bgez : decode 0x04210004#32 = .instr (.bgez 1#5 4#16) := by decide
theorem test_decode_bltzal : decode 0x04300004#32 = .instr (.bltzal 1#5 4#16) := by decide
theorem test_decode_bgezal : decode 0x04310004#32 = .instr (.bgezal 1#5 4#16) := by decide
theorem test_decode_beql : decode 0x50220004#32 = .instr (.beql 1#5 2#5 4#16) := by decide
theorem test_decode_bnel : decode 0x54220004#32 = .instr (.bnel 1#5 2#5 4#16) := by decide
theorem test_decode_blezl : decode 0x58200004#32 = .instr (.blezl 1#5 4#16) := by decide
theorem test_decode_bgtzl : decode 0x5C200004#32 = .instr (.bgtzl 1#5 4#16) := by decide
theorem test_decode_bltzl : decode 0x04220004#32 = .instr (.bltzl 1#5 4#16) := by decide
theorem test_decode_bgezl : decode 0x04230004#32 = .instr (.bgezl 1#5 4#16) := by decide
theorem test_decode_bltzall : decode 0x04320004#32 = .instr (.bltzall 1#5 4#16) := by decide
theorem test_decode_bgezall : decode 0x04330004#32 = .instr (.bgezall 1#5 4#16) := by decide
theorem test_decode_sync : decode 0x0000000F#32 = .instr (.sync 0#5) := by decide
theorem test_decode_synci : decode 0x049F0000#32 = .instr (.synci 4#5 0#16) := by decide
theorem test_decode_syscall : decode 0x0000000C#32 = .instr (.syscall 0#20) := by decide
theorem test_decode_break_ : decode 0x0000000D#32 = .instr (.break_ 0#20) := by decide
theorem test_decode_tge : decode 0x00220030#32 = .instr (.tge 1#5 2#5 0#10) := by decide
theorem test_decode_tgeu : decode 0x00220031#32 = .instr (.tgeu 1#5 2#5 0#10) := by decide
theorem test_decode_tlt : decode 0x00220032#32 = .instr (.tlt 1#5 2#5 0#10) := by decide
theorem test_decode_tltu : decode 0x00220033#32 = .instr (.tltu 1#5 2#5 0#10) := by decide
theorem test_decode_teq : decode 0x004001F4#32 = .instr (.teq 2#5 0#5 7#10) := by decide
theorem test_decode_tne : decode 0x00220036#32 = .instr (.tne 1#5 2#5 0#10) := by decide
theorem test_decode_tgei : decode 0x0428000A#32 = .instr (.tgei 1#5 10#16) := by decide
theorem test_decode_tgeiu : decode 0x0429000A#32 = .instr (.tgeiu 1#5 10#16) := by decide
theorem test_decode_tlti : decode 0x042A000A#32 = .instr (.tlti 1#5 10#16) := by decide
theorem test_decode_tltiu : decode 0x042B000A#32 = .instr (.tltiu 1#5 10#16) := by decide
theorem test_decode_teqi : decode 0x042C000A#32 = .instr (.teqi 1#5 10#16) := by decide
theorem test_decode_tnei : decode 0x042E000A#32 = .instr (.tnei 1#5 10#16) := by decide
theorem test_decode_sdbbp : decode 0x7000003F#32 = .instr (.sdbbp 0#20) := by decide
theorem test_decode_movn : decode 0x0022180B#32 = .instr (.movn 1#5 2#5 3#5) := by decide
theorem test_decode_movz : decode 0x0022180A#32 = .instr (.movz 1#5 2#5 3#5) := by decide
theorem test_decode_movci : decode 0x00011801#32 = .instr (.movci 0#5 0#3 0#1 1#1 3#5 0#5) := by decide
theorem test_decode_nop : decode 0x00000000#32 = .instr (.nop) := by decide
theorem test_decode_ssnop : decode 0x00000040#32 = .instr (.ssnop) := by decide
theorem test_decode_ehb : decode 0x000000C0#32 = .instr (.ehb) := by decide
theorem test_decode_rdhwr : decode 0x7C02183B#32 = .instr (.rdhwr 2#5 3#5) := by decide
theorem test_decode_pref : decode 0xCC800000#32 = .instr (.pref 4#5 0#5 0#16) := by decide
theorem test_decode_cache : decode 0xBC800000#32 = .instr (.cache 4#5 0#5 0#16) := by decide
theorem test_decode_mfc0 : decode 0x40087801#32 = .instr (.mfc0 8#5 15#5 1#3) := by decide
theorem test_decode_mtc0 : decode 0x40896001#32 = .instr (.mtc0 9#5 12#5 1#3) := by decide
theorem test_decode_di : decode 0x41686000#32 = .instr (.di 8#5) := by decide
theorem test_decode_ei : decode 0x41686020#32 = .instr (.ei 8#5) := by decide
theorem test_decode_rdpgpr : decode 0x415D1000#32 = .instr (.rdpgpr 29#5 2#5) := by decide
theorem test_decode_wrpgpr : decode 0x41C2E800#32 = .instr (.wrpgpr 2#5 29#5) := by decide
theorem test_decode_eret : decode 0x42000018#32 = .instr (.eret) := by decide
theorem test_decode_deret : decode 0x4200001F#32 = .instr (.deret) := by decide
theorem test_decode_wait : decode 0x42000020#32 = .instr (.wait 0#19) := by decide
theorem test_decode_tlbr : decode 0x42000001#32 = .instr (.tlbr) := by decide
theorem test_decode_tlbwi : decode 0x42000002#32 = .instr (.tlbwi) := by decide
theorem test_decode_tlbwr : decode 0x42000006#32 = .instr (.tlbwr) := by decide
theorem test_decode_tlbp : decode 0x42000008#32 = .instr (.tlbp) := by decide
theorem test_decode_cop1 : decode 0x46020800#32 = .instr (.cop1 0x2020800#26) := by decide
theorem test_decode_cop2 : decode 0x48020000#32 = .instr (.cop2 0x20000#26) := by decide
theorem test_decode_cop1x : decode 0x4C000000#32 = .instr (.cop1x 0#26) := by decide
theorem test_decode_lwc1 : decode 0xC4800000#32 = .instr (.lwc1 4#5 0#5 0#16) := by decide
theorem test_decode_ldc1 : decode 0xD4820008#32 = .instr (.ldc1 4#5 2#5 8#16) := by decide
theorem test_decode_swc1 : decode 0xE4820008#32 = .instr (.swc1 4#5 2#5 8#16) := by decide
theorem test_decode_sdc1 : decode 0xF4820008#32 = .instr (.sdc1 4#5 2#5 8#16) := by decide
theorem test_decode_lwc2 : decode 0xC8800000#32 = .instr (.lwc2 4#5 0#5 0#16) := by decide
theorem test_decode_ldc2 : decode 0xD8820008#32 = .instr (.ldc2 4#5 2#5 8#16) := by decide
theorem test_decode_swc2 : decode 0xE8820008#32 = .instr (.swc2 4#5 2#5 8#16) := by decide
theorem test_decode_sdc2 : decode 0xF8800000#32 = .instr (.sdc2 4#5 0#5 0#16) := by decide

theorem test_decode_reserved_opcode : decode 0xFC000000#32 = .reserved := by decide
theorem test_decode_reserved_function : decode 0x00000005#32 = .reserved := by decide
theorem test_decode_must_be_zero : decode 0x00200000#32 = .mustBeZero := by decide
theorem test_decode_truncated : decodeBytes [0x00#8, 0x00#8, 0x00#8] = .truncated := by decide

/-! ## The vectors of 95_test_vectors.md, parts B1 to B6 -/

theorem test_lb : after 0x80820003#32 (withRegs [(4#5, 0xA0001000#32)] (withBytes vectorBytes start))
    (fun t => t.reg 2#5 == 0x00000033#32) = true := by decide
theorem test_lbu : after 0x90820003#32 (withRegs [(4#5, 0xA0001000#32)] (withBytes vectorBytes start))
    (fun t => t.reg 2#5 == 0x00000033#32) = true := by decide
theorem test_lb_2 : after 0x8082FFFF#32 (withRegs [(4#5, 0xA0001008#32)] (withBytes [0x00#8, 0x11#8, 0x22#8, 0x33#8, 0xC4#8, 0xD5#8, 0xE6#8, 0xF7#8] start))
    (fun t => t.reg 2#5 == 0xFFFFFFF7#32) = true := by decide
theorem test_lbu_2 : after 0x9082FFFF#32 (withRegs [(4#5, 0xA0001008#32)] (withBytes [0x00#8, 0x11#8, 0x22#8, 0x33#8, 0xC4#8, 0xD5#8, 0xE6#8, 0xF7#8] start))
    (fun t => t.reg 2#5 == 0x000000F7#32) = true := by decide
theorem test_lh : after 0x84820002#32 (withRegs [(4#5, 0xA0001000#32)] (withBytes [0x00#8, 0xF1#8, 0x22#8, 0x83#8, 0x44#8, 0x55#8, 0x66#8, 0x77#8] start))
    (fun t => t.reg 2#5 == 0xFFFF8322#32) = true := by decide
theorem test_lhu : after 0x94820002#32 (withRegs [(4#5, 0xA0001000#32)] (withBytes [0x00#8, 0xF1#8, 0x22#8, 0x83#8, 0x44#8, 0x55#8, 0x66#8, 0x77#8] start))
    (fun t => t.reg 2#5 == 0x00008322#32) = true := by decide
theorem test_lh_2 : after 0x84820001#32 (withRegs [(4#5, 0xA0001000#32), (2#5, 0xAAAAAAAA#32)] (withBytes vectorBytes start))
    (fun t => took 4#5 t && t.cp0.badVAddr == 0xA0001001#32 && t.reg 2#5 == 0xAAAAAAAA#32) = true := by decide
theorem test_lhu_2 : after 0x94820003#32 (withRegs [(4#5, 0xA0001000#32), (2#5, 0xAAAAAAAA#32)] (withBytes vectorBytes start))
    (fun t => took 4#5 t && t.cp0.badVAddr == 0xA0001003#32 && t.reg 2#5 == 0xAAAAAAAA#32) = true := by decide
theorem test_lw : after 0x8C820002#32 (withRegs [(4#5, 0xA0001000#32), (2#5, 0xAAAAAAAA#32)] (withBytes vectorBytes start))
    (fun t => took 4#5 t && t.cp0.badVAddr == 0xA0001002#32 && t.reg 2#5 == 0xAAAAAAAA#32) = true := by decide
theorem test_lwl : after 0x88820001#32 (withRegs [(4#5, 0xA0001000#32), (2#5, 0xAABBCCDD#32)] (withBytes vectorBytes start))
    (fun t => t.reg 2#5 == 0x1100CCDD#32) = true := by decide
theorem test_lwl_2 : after 0x88820002#32 (withRegs [(4#5, 0xA0001000#32), (2#5, 0xAABBCCDD#32)] (withBytes vectorBytes start))
    (fun t => t.reg 2#5 == 0x221100DD#32) = true := by decide
theorem test_lwr : after 0x98820001#32 (withRegs [(4#5, 0xA0001000#32), (2#5, 0xAABBCCDD#32)] (withBytes vectorBytes start))
    (fun t => t.reg 2#5 == 0xAA332211#32) = true := by decide
theorem test_lwr_2 : after 0x98820003#32 (withRegs [(4#5, 0xA0001000#32), (2#5, 0xAABBCCDD#32)] (withBytes vectorBytes start))
    (fun t => t.reg 2#5 == 0xAABBCC33#32) = true := by decide
theorem test_sb : after 0xA0850001#32 (withRegs [(4#5, 0xA0001000#32), (5#5, 0xDDCCBBAA#32)] (withBytes vectorBytes start))
    (fun t => bytesAt 8 t == [0x00#8, 0xAA#8, 0x22#8, 0x33#8, 0x44#8, 0x55#8, 0x66#8, 0x77#8]) = true := by decide
theorem test_sh : after 0xA4850002#32 (withRegs [(4#5, 0xA0001000#32), (5#5, 0xDDCCBBAA#32)] (withBytes vectorBytes start))
    (fun t => bytesAt 8 t == [0x00#8, 0x11#8, 0xAA#8, 0xBB#8, 0x44#8, 0x55#8, 0x66#8, 0x77#8]) = true := by decide
theorem test_sh_2 : after 0xA4850001#32 (withRegs [(4#5, 0xA0001000#32), (5#5, 0xDDCCBBAA#32)] (withBytes vectorBytes start))
    (fun t => took 5#5 t && t.cp0.badVAddr == 0xA0001001#32 && t.reg 5#5 == 0xDDCCBBAA#32) = true := by decide
theorem test_sw : after 0xAC850004#32 (withRegs [(4#5, 0xA0001000#32), (5#5, 0xDDCCBBAA#32)] (withBytes vectorBytes start))
    (fun t => bytesAt 8 t == [0x00#8, 0x11#8, 0x22#8, 0x33#8, 0xAA#8, 0xBB#8, 0xCC#8, 0xDD#8]) = true := by decide
theorem test_sw_2 : after 0xAC850001#32 (withRegs [(4#5, 0xA0001000#32), (5#5, 0xDDCCBBAA#32)] (withBytes vectorBytes start))
    (fun t => took 5#5 t && t.cp0.badVAddr == 0xA0001001#32 && t.reg 5#5 == 0xDDCCBBAA#32) = true := by decide
theorem test_swl : after 0xA8850001#32 (withRegs [(4#5, 0xA0001000#32), (5#5, 0xDDCCBBAA#32)] (withBytes vectorBytes start))
    (fun t => bytesAt 8 t == [0xCC#8, 0xDD#8, 0x22#8, 0x33#8, 0x44#8, 0x55#8, 0x66#8, 0x77#8]) = true := by decide
theorem test_swl_2 : after 0xA8850002#32 (withRegs [(4#5, 0xA0001000#32), (5#5, 0xDDCCBBAA#32)] (withBytes vectorBytes start))
    (fun t => bytesAt 8 t == [0xBB#8, 0xCC#8, 0xDD#8, 0x33#8, 0x44#8, 0x55#8, 0x66#8, 0x77#8]) = true := by decide
theorem test_swr : after 0xB8850001#32 (withRegs [(4#5, 0xA0001000#32), (5#5, 0xDDCCBBAA#32)] (withBytes vectorBytes start))
    (fun t => bytesAt 8 t == [0x00#8, 0xAA#8, 0xBB#8, 0xCC#8, 0x44#8, 0x55#8, 0x66#8, 0x77#8]) = true := by decide
theorem test_swr_2 : after 0xB8850002#32 (withRegs [(4#5, 0xA0001000#32), (5#5, 0xDDCCBBAA#32)] (withBytes vectorBytes start))
    (fun t => bytesAt 8 t == [0x00#8, 0x11#8, 0xAA#8, 0xBB#8, 0x44#8, 0x55#8, 0x66#8, 0x77#8]) = true := by decide
theorem test_lw_2 : after 0x8C820000#32 (withStatus { start.cp0.status with um := true, exl := false } (withRegs [(4#5, 0xA0001000#32), (2#5, 0x00000001#32)] (withBytes vectorBytes start)))
    (fun t => took 4#5 t && t.cp0.badVAddr == 0xA0001000#32 && t.reg 2#5 == 0x00000001#32) = true := by decide
theorem test_add : after 0x00221820#32 (withRegs [(1#5, 0x7FFFFFFF#32), (2#5, 0xFFFFFFFF#32), (3#5, 0x00000000#32)] start)
    (fun t => t.reg 3#5 == 0x7FFFFFFE#32 && t.pc == 0x9D000004#32) = true := by decide
theorem test_add_2 : after 0x00221820#32 (withRegs [(1#5, 0x80000000#32), (2#5, 0xFFFFFFFF#32), (3#5, 0x00000055#32)] start)
    (fun t => took 12#5 t && t.reg 3#5 == 0x00000055#32) = true := by decide
theorem test_addu : after 0x00221821#32 (withRegs [(1#5, 0xFFFFFFFF#32), (2#5, 0x00000001#32)] start)
    (fun t => t.reg 3#5 == 0x00000000#32 && t.pc == 0x9D000004#32) = true := by decide
theorem test_addu_2 : after 0x00220021#32 (withRegs [(1#5, 0x00000005#32), (2#5, 0x00000006#32)] start)
    (fun t => t.reg 0#5 == 0x00000000#32 && t.pc == 0x9D000004#32) = true := by decide
theorem test_addi : after 0x2022FFFF#32 (withRegs [(1#5, 0x80000000#32), (2#5, 0x00000011#32)] start)
    (fun t => took 12#5 t && t.reg 2#5 == 0x00000011#32) = true := by decide
theorem test_addi_2 : after 0x2022FFFF#32 (withRegs [(1#5, 0x00000000#32)] start)
    (fun t => t.reg 2#5 == 0xFFFFFFFF#32 && t.pc == 0x9D000004#32) = true := by decide
theorem test_addiu : after 0x2422FFFF#32 (withRegs [(1#5, 0x00000000#32)] start)
    (fun t => t.reg 2#5 == 0xFFFFFFFF#32 && t.pc == 0x9D000004#32) = true := by decide
theorem test_addiu_2 : after 0x24228000#32 (withRegs [(1#5, 0x80000000#32)] start)
    (fun t => t.reg 2#5 == 0x7FFF8000#32 && t.pc == 0x9D000004#32) = true := by decide
theorem test_sub : after 0x00221822#32 (withRegs [(1#5, 0x00000000#32), (2#5, 0x80000000#32), (3#5, 0x00000077#32)] start)
    (fun t => took 12#5 t && t.reg 3#5 == 0x00000077#32) = true := by decide
theorem test_sub_2 : after 0x00221822#32 (withRegs [(1#5, 0x00000005#32), (2#5, 0x00000007#32)] start)
    (fun t => t.reg 3#5 == 0xFFFFFFFE#32 && t.pc == 0x9D000004#32) = true := by decide
theorem test_subu : after 0x00221823#32 (withRegs [(1#5, 0x00000000#32), (2#5, 0x00000001#32)] start)
    (fun t => t.reg 3#5 == 0xFFFFFFFF#32 && t.pc == 0x9D000004#32) = true := by decide
theorem test_subu_2 : after 0x00221823#32 (withRegs [(1#5, 0x80000000#32), (2#5, 0x00000001#32)] start)
    (fun t => t.reg 3#5 == 0x7FFFFFFF#32 && t.pc == 0x9D000004#32) = true := by decide
theorem test_slt : after 0x0022182A#32 (withRegs [(1#5, 0xFFFFFFFF#32), (2#5, 0x00000000#32)] start)
    (fun t => t.reg 3#5 == 0x00000001#32 && t.pc == 0x9D000004#32) = true := by decide
theorem test_sltu : after 0x0022182B#32 (withRegs [(1#5, 0xFFFFFFFF#32), (2#5, 0x00000000#32)] start)
    (fun t => t.reg 3#5 == 0x00000000#32 && t.pc == 0x9D000004#32) = true := by decide
theorem test_slt_2 : after 0x0022182A#32 (withRegs [(1#5, 0x80000000#32), (2#5, 0x7FFFFFFF#32)] start)
    (fun t => t.reg 3#5 == 0x00000001#32 && t.pc == 0x9D000004#32) = true := by decide
theorem test_sltu_2 : after 0x0002182B#32 (withRegs [(2#5, 0x00000001#32)] start)
    (fun t => t.reg 3#5 == 0x00000001#32 && t.pc == 0x9D000004#32) = true := by decide
theorem test_slti : after 0x2822FFFF#32 (withRegs [(1#5, 0xFFFFFFFE#32)] start)
    (fun t => t.reg 2#5 == 0x00000001#32 && t.pc == 0x9D000004#32) = true := by decide
theorem test_slti_2 : after 0x2822FFFF#32 (withRegs [(1#5, 0x00000000#32)] start)
    (fun t => t.reg 2#5 == 0x00000000#32 && t.pc == 0x9D000004#32) = true := by decide
theorem test_sltiu : after 0x2C22FFFF#32 (withRegs [(1#5, 0xFFFFFFFE#32)] start)
    (fun t => t.reg 2#5 == 0x00000001#32 && t.pc == 0x9D000004#32) = true := by decide
theorem test_sltiu_2 : after 0x2C228000#32 (withRegs [(1#5, 0x0000FFFF#32)] start)
    (fun t => t.reg 2#5 == 0x00000001#32 && t.pc == 0x9D000004#32) = true := by decide
theorem test_and : after 0x00221824#32 (withRegs [(1#5, 0xFF00FF00#32), (2#5, 0x0FF00FF0#32)] start)
    (fun t => t.reg 3#5 == 0x0F000F00#32 && t.pc == 0x9D000004#32) = true := by decide
theorem test_or : after 0x00221825#32 (withRegs [(1#5, 0xFF00FF00#32), (2#5, 0x0FF00FF0#32)] start)
    (fun t => t.reg 3#5 == 0xFFF0FFF0#32 && t.pc == 0x9D000004#32) = true := by decide
theorem test_xor : after 0x00221826#32 (withRegs [(1#5, 0xFF00FF00#32), (2#5, 0x0FF00FF0#32)] start)
    (fun t => t.reg 3#5 == 0xF0F0F0F0#32 && t.pc == 0x9D000004#32) = true := by decide
theorem test_nor : after 0x00221827#32 (withRegs [(1#5, 0xFF00FF00#32), (2#5, 0x0FF00FF0#32)] start)
    (fun t => t.reg 3#5 == 0x000F000F#32 && t.pc == 0x9D000004#32) = true := by decide
theorem test_nor_2 : after 0x00001827#32 start
    (fun t => t.reg 3#5 == 0xFFFFFFFF#32 && t.pc == 0x9D000004#32) = true := by decide
theorem test_andi : after 0x3022FFFF#32 (withRegs [(1#5, 0xFFFFFFFF#32)] start)
    (fun t => t.reg 2#5 == 0x0000FFFF#32 && t.pc == 0x9D000004#32) = true := by decide
theorem test_ori : after 0x34228000#32 (withRegs [(1#5, 0x12340000#32)] start)
    (fun t => t.reg 2#5 == 0x12348000#32 && t.pc == 0x9D000004#32) = true := by decide
theorem test_xori : after 0x3822FFFF#32 (withRegs [(1#5, 0xFFFFFFFF#32)] start)
    (fun t => t.reg 2#5 == 0xFFFF0000#32 && t.pc == 0x9D000004#32) = true := by decide
theorem test_lui : after 0x3C028000#32 (withRegs [(2#5, 0xFFFFFFFF#32)] start)
    (fun t => t.reg 2#5 == 0x80000000#32 && t.pc == 0x9D000004#32) = true := by decide
theorem test_sll : after 0x000117C0#32 (withRegs [(1#5, 0x80000001#32)] start)
    (fun t => t.reg 2#5 == 0x80000000#32 && t.pc == 0x9D000004#32) = true := by decide
theorem test_sll_2 : after 0x00011100#32 (withRegs [(1#5, 0x12345678#32)] start)
    (fun t => t.reg 2#5 == 0x23456780#32 && t.pc == 0x9D000004#32) = true := by decide
theorem test_srl : after 0x000117C2#32 (withRegs [(1#5, 0x80000001#32)] start)
    (fun t => t.reg 2#5 == 0x00000001#32 && t.pc == 0x9D000004#32) = true := by decide
theorem test_srl_2 : after 0x00011102#32 (withRegs [(1#5, 0x87654321#32)] start)
    (fun t => t.reg 2#5 == 0x08765432#32 && t.pc == 0x9D000004#32) = true := by decide
theorem test_sra : after 0x00011103#32 (withRegs [(1#5, 0x87654321#32)] start)
    (fun t => t.reg 2#5 == 0xF8765432#32 && t.pc == 0x9D000004#32) = true := by decide
theorem test_sra_2 : after 0x000117C3#32 (withRegs [(1#5, 0x80000000#32)] start)
    (fun t => t.reg 2#5 == 0xFFFFFFFF#32 && t.pc == 0x9D000004#32) = true := by decide
theorem test_sllv : after 0x00411804#32 (withRegs [(1#5, 0x00000001#32), (2#5, 0x00000021#32)] start)
    (fun t => t.reg 3#5 == 0x00000002#32 && t.pc == 0x9D000004#32) = true := by decide
theorem test_sllv_2 : after 0x00411804#32 (withRegs [(1#5, 0x00000001#32), (2#5, 0xFFFFFFFF#32)] start)
    (fun t => t.reg 3#5 == 0x80000000#32 && t.pc == 0x9D000004#32) = true := by decide
theorem test_srlv : after 0x00411806#32 (withRegs [(1#5, 0x80000000#32), (2#5, 0x00000024#32)] start)
    (fun t => t.reg 3#5 == 0x08000000#32 && t.pc == 0x9D000004#32) = true := by decide
theorem test_srav : after 0x00411807#32 (withRegs [(1#5, 0x80000000#32), (2#5, 0x00000024#32)] start)
    (fun t => t.reg 3#5 == 0xF8000000#32 && t.pc == 0x9D000004#32) = true := by decide
theorem test_rotr : after 0x00211202#32 (withRegs [(1#5, 0x12345678#32)] start)
    (fun t => t.reg 2#5 == 0x78123456#32 && t.pc == 0x9D000004#32) = true := by decide
theorem test_rotr_2 : after 0x002117C2#32 (withRegs [(1#5, 0x80000001#32)] start)
    (fun t => t.reg 2#5 == 0x00000003#32 && t.pc == 0x9D000004#32) = true := by decide
theorem test_rotrv : after 0x00411846#32 (withRegs [(1#5, 0x12345678#32), (2#5, 0x00000028#32)] start)
    (fun t => t.reg 3#5 == 0x78123456#32 && t.pc == 0x9D000004#32) = true := by decide
theorem test_clz : after 0x70221020#32 (withRegs [(1#5, 0x00000000#32)] start)
    (fun t => t.reg 2#5 == 0x00000020#32 && t.pc == 0x9D000004#32) = true := by decide
theorem test_clz_2 : after 0x70221020#32 (withRegs [(1#5, 0x00010000#32)] start)
    (fun t => t.reg 2#5 == 0x0000000F#32 && t.pc == 0x9D000004#32) = true := by decide
theorem test_clo : after 0x70221021#32 (withRegs [(1#5, 0xFFFFFFFF#32)] start)
    (fun t => t.reg 2#5 == 0x00000020#32 && t.pc == 0x9D000004#32) = true := by decide
theorem test_clo_2 : after 0x70221021#32 (withRegs [(1#5, 0xFFFF7FFF#32)] start)
    (fun t => t.reg 2#5 == 0x00000010#32 && t.pc == 0x9D000004#32) = true := by decide
theorem test_ext : after 0x7C22F800#32 (withRegs [(1#5, 0xCAFEBABE#32)] start)
    (fun t => t.reg 2#5 == 0xCAFEBABE#32 && t.pc == 0x9D000004#32) = true := by decide
theorem test_ext_2 : after 0x7C223900#32 (withRegs [(1#5, 0x00000AB0#32)] start)
    (fun t => t.reg 2#5 == 0x000000AB#32 && t.pc == 0x9D000004#32) = true := by decide
theorem test_ins : after 0x7C22FFC4#32 (withRegs [(1#5, 0x00000001#32), (2#5, 0x00000000#32)] start)
    (fun t => t.reg 2#5 == 0x80000000#32 && t.pc == 0x9D000004#32) = true := by decide
theorem test_ins_2 : after 0x7C225904#32 (withRegs [(1#5, 0xFFFFFFAB#32), (2#5, 0x12345678#32)] start)
    (fun t => t.reg 2#5 == 0x12345AB8#32 && t.pc == 0x9D000004#32) = true := by decide
theorem test_seb : after 0x7C011420#32 (withRegs [(1#5, 0x00000080#32)] start)
    (fun t => t.reg 2#5 == 0xFFFFFF80#32 && t.pc == 0x9D000004#32) = true := by decide
theorem test_seb_2 : after 0x7C011420#32 (withRegs [(1#5, 0xFFFFFF7F#32)] start)
    (fun t => t.reg 2#5 == 0x0000007F#32 && t.pc == 0x9D000004#32) = true := by decide
theorem test_seh : after 0x7C011620#32 (withRegs [(1#5, 0x00008000#32)] start)
    (fun t => t.reg 2#5 == 0xFFFF8000#32 && t.pc == 0x9D000004#32) = true := by decide
theorem test_seh_2 : after 0x7C011620#32 (withRegs [(1#5, 0xFFFF7FFF#32)] start)
    (fun t => t.reg 2#5 == 0x00007FFF#32 && t.pc == 0x9D000004#32) = true := by decide
theorem test_wsbh : after 0x7C0110A0#32 (withRegs [(1#5, 0x11223344#32)] start)
    (fun t => t.reg 2#5 == 0x22114433#32 && t.pc == 0x9D000004#32) = true := by decide
theorem test_movn : after 0x0022180B#32 (withRegs [(1#5, 0x0000AAAA#32), (2#5, 0x00000000#32), (3#5, 0x00005555#32)] start)
    (fun t => t.reg 3#5 == 0x00005555#32 && t.pc == 0x9D000004#32) = true := by decide
theorem test_movn_2 : after 0x0022180B#32 (withRegs [(1#5, 0x0000AAAA#32), (2#5, 0x00000001#32), (3#5, 0x00005555#32)] start)
    (fun t => t.reg 3#5 == 0x0000AAAA#32 && t.pc == 0x9D000004#32) = true := by decide
theorem test_movz : after 0x0022180A#32 (withRegs [(1#5, 0x0000AAAA#32), (2#5, 0x00000000#32), (3#5, 0x00005555#32)] start)
    (fun t => t.reg 3#5 == 0x0000AAAA#32 && t.pc == 0x9D000004#32) = true := by decide
theorem test_movz_2 : after 0x0022180A#32 (withRegs [(1#5, 0x0000AAAA#32), (2#5, 0x80000000#32), (3#5, 0x00005555#32)] start)
    (fun t => t.reg 3#5 == 0x00005555#32 && t.pc == 0x9D000004#32) = true := by decide
theorem test_mult : after 0x00220018#32 (withRegs [(1#5, 0xFFFFFFFF#32), (2#5, 0xFFFFFFFF#32)] start)
    (fun t => t.hi == 0x00000000#32 && t.lo == 0x00000001#32 && t.pc == 0x9D000004#32) = true := by decide
theorem test_multu : after 0x00220019#32 (withRegs [(1#5, 0xFFFFFFFF#32), (2#5, 0xFFFFFFFF#32)] start)
    (fun t => t.hi == 0xFFFFFFFE#32 && t.lo == 0x00000001#32 && t.pc == 0x9D000004#32) = true := by decide
theorem test_mult_2 : after 0x00220018#32 (withRegs [(1#5, 0xFFFFFFFE#32), (2#5, 0x00000003#32)] start)
    (fun t => t.hi == 0xFFFFFFFF#32 && t.lo == 0xFFFFFFFA#32 && t.pc == 0x9D000004#32) = true := by decide
theorem test_multu_2 : after 0x00220019#32 (withRegs [(1#5, 0xFFFFFFFE#32), (2#5, 0x00000003#32)] start)
    (fun t => t.hi == 0x00000002#32 && t.lo == 0xFFFFFFFA#32 && t.pc == 0x9D000004#32) = true := by decide
theorem test_madd : after 0x70220000#32 { ((withRegs [(1#5, 0xFFFFFFFF#32), (2#5, 0x00000001#32)] start)) with hi := 0x00000000#32, lo := 0x00000000#32 }
    (fun t => t.hi == 0xFFFFFFFF#32 && t.lo == 0xFFFFFFFF#32 && t.pc == 0x9D000004#32) = true := by decide
theorem test_madd_2 : after 0x70220000#32 { ((withRegs [(1#5, 0x00000002#32), (2#5, 0x00000003#32)] start)) with hi := 0x00000000#32, lo := 0xFFFFFFFF#32 }
    (fun t => t.hi == 0x00000001#32 && t.lo == 0x00000005#32 && t.pc == 0x9D000004#32) = true := by decide
theorem test_maddu : after 0x70220001#32 { ((withRegs [(1#5, 0xFFFFFFFF#32), (2#5, 0x00000001#32)] start)) with hi := 0x00000000#32, lo := 0x00000001#32 }
    (fun t => t.hi == 0x00000001#32 && t.lo == 0x00000000#32 && t.pc == 0x9D000004#32) = true := by decide
theorem test_maddu_2 : after 0x70220001#32 { ((withRegs [(1#5, 0xFFFFFFFF#32), (2#5, 0xFFFFFFFF#32)] start)) with hi := 0xFFFFFFFF#32, lo := 0xFFFFFFFF#32 }
    (fun t => t.hi == 0xFFFFFFFE#32 && t.lo == 0x00000000#32 && t.pc == 0x9D000004#32) = true := by decide
theorem test_msub : after 0x70220004#32 { ((withRegs [(1#5, 0x00000002#32), (2#5, 0x00000003#32)] start)) with hi := 0x00000000#32, lo := 0x00000000#32 }
    (fun t => t.hi == 0xFFFFFFFF#32 && t.lo == 0xFFFFFFFA#32 && t.pc == 0x9D000004#32) = true := by decide
theorem test_msub_2 : after 0x70220004#32 { ((withRegs [(1#5, 0xFFFFFFFF#32), (2#5, 0x00000001#32)] start)) with hi := 0x00000000#32, lo := 0x00000000#32 }
    (fun t => t.hi == 0x00000000#32 && t.lo == 0x00000001#32 && t.pc == 0x9D000004#32) = true := by decide
theorem test_msubu : after 0x70220005#32 { ((withRegs [(1#5, 0xFFFFFFFF#32), (2#5, 0x00000001#32)] start)) with hi := 0x00000000#32, lo := 0x00000000#32 }
    (fun t => t.hi == 0xFFFFFFFF#32 && t.lo == 0x00000001#32 && t.pc == 0x9D000004#32) = true := by decide
theorem test_msubu_2 : after 0x70220005#32 { ((withRegs [(1#5, 0x00000001#32), (2#5, 0x00000001#32)] start)) with hi := 0x00000001#32, lo := 0x00000000#32 }
    (fun t => t.hi == 0x00000000#32 && t.lo == 0xFFFFFFFF#32 && t.pc == 0x9D000004#32) = true := by decide
theorem test_div : after 0x0022001A#32 (withRegs [(1#5, 0xFFFFFFF9#32), (2#5, 0x00000002#32)] start)
    (fun t => t.hi == 0xFFFFFFFF#32 && t.lo == 0xFFFFFFFD#32 && t.pc == 0x9D000004#32) = true := by decide
theorem test_div_2 : after 0x0022001A#32 (withRegs [(1#5, 0x00000007#32), (2#5, 0xFFFFFFFE#32)] start)
    (fun t => t.hi == 0x00000001#32 && t.lo == 0xFFFFFFFD#32 && t.pc == 0x9D000004#32) = true := by decide
theorem test_divu : after 0x0022001B#32 (withRegs [(1#5, 0xFFFFFFFF#32), (2#5, 0x00000010#32)] start)
    (fun t => t.hi == 0x0000000F#32 && t.lo == 0x0FFFFFFF#32 && t.pc == 0x9D000004#32) = true := by decide
theorem test_divu_2 : after 0x0022001B#32 (withRegs [(1#5, 0x80000000#32), (2#5, 0xFFFFFFFF#32)] start)
    (fun t => t.hi == 0x80000000#32 && t.lo == 0x00000000#32 && t.pc == 0x9D000004#32) = true := by decide
theorem test_mfhi : after 0x00001810#32 { start with hi := 0x12345678#32, lo := 0x9ABCDEF0#32 }
    (fun t => t.reg 3#5 == 0x12345678#32 && t.pc == 0x9D000004#32) = true := by decide
theorem test_mflo : after 0x00001812#32 { start with hi := 0x12345678#32, lo := 0x9ABCDEF0#32 }
    (fun t => t.reg 3#5 == 0x9ABCDEF0#32 && t.pc == 0x9D000004#32) = true := by decide
theorem test_mthi : after 0x00200011#32 { ((withRegs [(1#5, 0xCAFE0000#32)] start)) with hi := 0x00000001#32, lo := 0x00000002#32 }
    (fun t => t.hi == 0xCAFE0000#32 && t.lo == 0x00000002#32 && t.pc == 0x9D000004#32) = true := by decide
theorem test_mtlo : after 0x00200013#32 { ((withRegs [(1#5, 0xCAFE0000#32)] start)) with hi := 0x00000001#32, lo := 0x00000002#32 }
    (fun t => t.hi == 0x00000001#32 && t.lo == 0xCAFE0000#32 && t.pc == 0x9D000004#32) = true := by decide
theorem test_mul : after 0x70221802#32 { ((withRegs [(1#5, 0xFFFFFFFF#32), (2#5, 0xFFFFFFFF#32)] start)) with hi := 0x00000005#32, lo := 0x00000006#32 }
    (fun t => t.reg 3#5 == 0x00000001#32 && t.pc == 0x9D000004#32) = true := by decide
theorem test_mul_2 : after 0x70221802#32 (withRegs [(1#5, 0x00012345#32), (2#5, 0x0006789A#32)] start)
    (fun t => t.reg 3#5 == 0x5CD58F82#32 && t.pc == 0x9D000004#32) = true := by decide
theorem test_beq : after 0x10220004#32 (withRegs [(1#5, 0x00000005#32), (2#5, 0x00000006#32)] start)
    (fun t => t.pc == 0x9D000004#32 && t.advance.pc == 0x9D000008#32 && t.delaySlot.isSome) = true := by decide
theorem test_bne : after 0x1422FFFF#32 (withRegs [(1#5, 0x00000005#32), (2#5, 0x00000006#32)] start)
    (fun t => t.pc == 0x9D000004#32 && t.advance.pc == 0x9D000000#32 && t.delaySlot.isSome) = true := by decide
theorem test_bne_2 : after 0x14228000#32 (withRegs [(1#5, 0x00000005#32), (2#5, 0x00000006#32)] start)
    (fun t => t.pc == 0x9D000004#32 && t.advance.pc == 0x9CFE0004#32 && t.delaySlot.isSome) = true := by decide
theorem test_blez : after 0x18200004#32 (withRegs [(1#5, 0x00000000#32)] start)
    (fun t => t.pc == 0x9D000004#32 && t.advance.pc == 0x9D000014#32 && t.delaySlot.isSome) = true := by decide
theorem test_blez_2 : after 0x18200004#32 (withRegs [(1#5, 0x00000001#32)] start)
    (fun t => t.pc == 0x9D000004#32 && t.advance.pc == 0x9D000008#32 && t.delaySlot.isSome) = true := by decide
theorem test_bgtz : after 0x1C200004#32 (withRegs [(1#5, 0x80000000#32)] start)
    (fun t => t.pc == 0x9D000004#32 && t.advance.pc == 0x9D000008#32 && t.delaySlot.isSome) = true := by decide
theorem test_bgtz_2 : after 0x1C200004#32 (withRegs [(1#5, 0x7FFFFFFF#32)] start)
    (fun t => t.pc == 0x9D000004#32 && t.advance.pc == 0x9D000014#32 && t.delaySlot.isSome) = true := by decide
theorem test_bltz : after 0x04200004#32 (withRegs [(1#5, 0x80000000#32)] start)
    (fun t => t.pc == 0x9D000004#32 && t.advance.pc == 0x9D000014#32 && t.delaySlot.isSome) = true := by decide
theorem test_bgez : after 0x04210004#32 (withRegs [(1#5, 0x00000000#32)] start)
    (fun t => t.pc == 0x9D000004#32 && t.advance.pc == 0x9D000014#32 && t.delaySlot.isSome) = true := by decide
theorem test_bltzal : after 0x04300004#32 (withRegs [(1#5, 0x00000001#32)] start)
    (fun t => t.reg 31#5 == 0x9D000008#32 && t.pc == 0x9D000004#32 && t.advance.pc == 0x9D000008#32 && t.delaySlot.isSome) = true := by decide
theorem test_bgezal : after 0x04310004#32 (withRegs [(1#5, 0x00000001#32)] start)
    (fun t => t.reg 31#5 == 0x9D000008#32 && t.pc == 0x9D000004#32 && t.advance.pc == 0x9D000014#32 && t.delaySlot.isSome) = true := by decide
theorem test_beql : after 0x50220004#32 (withRegs [(1#5, 0x00000005#32), (2#5, 0x00000005#32)] start)
    (fun t => t.pc == 0x9D000004#32 && t.advance.pc == 0x9D000014#32 && t.delaySlot.isSome) = true := by decide
theorem test_beql_2 : after 0x50220004#32 (withRegs [(1#5, 0x00000005#32), (2#5, 0x00000006#32)] start)
    (fun t => t.pc == 0x9D000008#32 && !t.delaySlot.isSome) = true := by decide
theorem test_bnel : after 0x54220004#32 (withRegs [(1#5, 0x00000005#32), (2#5, 0x00000005#32)] start)
    (fun t => t.pc == 0x9D000008#32 && !t.delaySlot.isSome) = true := by decide
theorem test_bltzl : after 0x04220004#32 (withRegs [(1#5, 0x00000001#32)] start)
    (fun t => t.pc == 0x9D000008#32 && !t.delaySlot.isSome) = true := by decide
theorem test_bgezall : after 0x04330004#32 (withRegs [(1#5, 0xFFFFFFFF#32)] start)
    (fun t => t.reg 31#5 == 0x9D000008#32 && t.pc == 0x9D000008#32 && !t.delaySlot.isSome) = true := by decide
theorem test_jr : after 0x00A00008#32 (withRegs [(5#5, 0x9D000200#32)] start)
    (fun t => t.pc == 0x9D000004#32 && t.advance.pc == 0x9D000200#32 && t.delaySlot.isSome) = true := by decide
theorem test_jr_2 : after 0x00A00008#32 (withRegs [(5#5, 0x9D000202#32)] start)
    (fun t => t.pc == 0x9D000004#32 && t.advance.pc == 0x9D000202#32 && t.delaySlot.isSome) = true := by decide
theorem test_jalr : after 0x00A0F809#32 (withRegs [(5#5, 0xBFC00000#32)] start)
    (fun t => t.reg 31#5 == 0x9D000008#32 && t.pc == 0x9D000004#32 && t.advance.pc == 0xBFC00000#32 && t.delaySlot.isSome) = true := by decide
theorem test_jalr_2 : after 0x00A03009#32 (withRegs [(5#5, 0x9D000200#32)] start)
    (fun t => t.reg 6#5 == 0x9D000008#32 && t.pc == 0x9D000004#32 && t.advance.pc == 0x9D000200#32 && t.delaySlot.isSome) = true := by decide
theorem test_teq : after 0x00220034#32 (withRegs [(1#5, 0x00000005#32), (2#5, 0x00000005#32)] start)
    (fun t => took 13#5 t) = true := by decide
theorem test_teq_2 : after 0x00220034#32 (withRegs [(1#5, 0x00000005#32), (2#5, 0x00000006#32)] start)
    (fun t => t.pc == 0x9D000004#32 && !t.cp0.status.exl) = true := by decide
theorem test_tne : after 0x00220036#32 (withRegs [(1#5, 0x00000005#32), (2#5, 0x00000006#32)] start)
    (fun t => took 13#5 t) = true := by decide
theorem test_tge : after 0x00220030#32 (withRegs [(1#5, 0xFFFFFFFF#32), (2#5, 0x00000000#32)] start)
    (fun t => t.pc == 0x9D000004#32 && !t.cp0.status.exl) = true := by decide
theorem test_tgeu : after 0x00220031#32 (withRegs [(1#5, 0xFFFFFFFF#32), (2#5, 0x00000000#32)] start)
    (fun t => took 13#5 t) = true := by decide
theorem test_tlt : after 0x00220032#32 (withRegs [(1#5, 0xFFFFFFFF#32), (2#5, 0x00000000#32)] start)
    (fun t => took 13#5 t) = true := by decide
theorem test_tltu : after 0x00220033#32 (withRegs [(1#5, 0xFFFFFFFF#32), (2#5, 0x00000000#32)] start)
    (fun t => t.pc == 0x9D000004#32 && !t.cp0.status.exl) = true := by decide
theorem test_tgei : after 0x0428FFFF#32 (withRegs [(1#5, 0x00000000#32)] start)
    (fun t => took 13#5 t) = true := by decide
theorem test_tgeiu : after 0x0429FFFF#32 (withRegs [(1#5, 0x00000000#32)] start)
    (fun t => t.pc == 0x9D000004#32 && !t.cp0.status.exl) = true := by decide
theorem test_tgeiu_2 : after 0x0429FFFF#32 (withRegs [(1#5, 0xFFFFFFFF#32)] start)
    (fun t => took 13#5 t) = true := by decide
theorem test_tlti : after 0x042AFFFF#32 (withRegs [(1#5, 0xFFFFFFFE#32)] start)
    (fun t => took 13#5 t) = true := by decide
theorem test_tltiu : after 0x042BFFFF#32 (withRegs [(1#5, 0xFFFFFFFE#32)] start)
    (fun t => took 13#5 t) = true := by decide
theorem test_teqi : after 0x042C8000#32 (withRegs [(1#5, 0xFFFF8000#32)] start)
    (fun t => took 13#5 t) = true := by decide
theorem test_tnei : after 0x042E8000#32 (withRegs [(1#5, 0xFFFF8000#32)] start)
    (fun t => t.pc == 0x9D000004#32 && !t.cp0.status.exl) = true := by decide

/-! ## The vectors that need more state (parts B1, B5 to B9) -/

/-- Status of User mode (UM = 1), with CU0 at a value. -/
def userStatus (cu0 : Bool) : Status := { start.cp0.status with um := true, cu0 := cu0 }

/-- CpU with a unit was taken from 0x9D000000. -/
def tookCpU (unit : BitVec 2) (t : State) : Bool := took 11#5 t && t.cp0.cause.ce == unit

theorem test_ll : after 0xC0820000#32 (withRegs [(4#5, 0xA0001004#32)] (withBytes vectorBytes start))
    (fun t => t.reg 2#5 == 0x77665544#32 && t.llbit) = true := by decide
theorem test_ll_2 : after 0xC0820001#32 (withRegs [(4#5, 0xA0001004#32)] (withBytes vectorBytes start))
    (fun t => took 4#5 t && t.cp0.badVAddr == 0xA0001005#32 && !t.llbit) = true := by decide
theorem test_sc : after 0xE0830000#32
    { withRegs [(4#5, 0xA0001004#32), (3#5, 9#32)] (withBytes vectorBytes start) with llbit := true }
    (fun t => t.reg 3#5 == 1#32 &&
      bytesAt 8 t == [0x00#8, 0x11#8, 0x22#8, 0x33#8, 0x09#8, 0x00#8, 0x00#8, 0x00#8]) = true := by decide
theorem test_sc_2 : after 0xE0830000#32 (withRegs [(4#5, 0xA0001004#32), (3#5, 9#32)] (withBytes vectorBytes start))
    (fun t => t.reg 3#5 == 0#32 && bytesAt 8 t == vectorBytes) = true := by decide
theorem test_j : after 0x0B400040#32 start (fun t => t.pc == 0x9D000004#32 && t.advance.pc == 0x9D000100#32) = true := by
  decide
theorem test_jal : after 0x0FFFFFFF#32 start
    (fun t => t.advance.pc == 0x9FFFFFFC#32 && t.reg 31#5 == 0x9D000008#32) = true := by decide
theorem test_jalx : after 0x77400040#32 start
    (fun t => t.advance.pc == 0x9D000100#32 && t.advance.isaMode && t.reg 31#5 == 0x9D000008#32) = true := by decide
theorem test_jrHb : after 0x00A00408#32 (withRegs [(5#5, 0x9D000200#32)] start)
    (fun t => t.pc == 0x9D000004#32 && t.advance.pc == 0x9D000200#32) = true := by decide
theorem test_jalrHb : after 0x0320FC09#32 (withRegs [(25#5, 0x9D000200#32)] start)
    (fun t => t.advance.pc == 0x9D000200#32 && t.reg 31#5 == 0x9D000008#32) = true := by decide
theorem test_blezl : after 0x58200004#32 (withRegs [(1#5, 1#32)] start) (fun t => t.pc == 0x9D000008#32) = true := by
  decide
theorem test_bgtzl : after 0x5C200004#32 (withRegs [(1#5, 1#32)] start) (fun t => t.advance.pc == 0x9D000014#32) = true := by
  decide
theorem test_bgezl : after 0x04230004#32 (withRegs [(1#5, 0x80000000#32)] start)
    (fun t => t.pc == 0x9D000008#32) = true := by decide
theorem test_bltzall : after 0x04320004#32 (withRegs [(1#5, 0x80000000#32)] start)
    (fun t => t.advance.pc == 0x9D000014#32 && t.reg 31#5 == 0x9D000008#32) = true := by decide
theorem test_j_in_delay_slot : refusedFor 0x0B400040#32
    { start with delaySlot := some { branch := 0x9CFFFFFC#32, target := 0x9D000010#32, isa := false, barrier := false } }
    .controlInDelaySlot = true := by decide
theorem test_sync : after 0x0000000F#32 start (fun t => t.pc == 0x9D000004#32 && decide (t.cp0 = start.cp0)) = true := by decide
theorem test_synci : after 0x049F0000#32
    { withRegs [(4#5, 0xA0001001#32)] start with codeWords := [(0x1000, .stored), (0x1004, .stored)] }
    (fun t => t.codeWords == [(0x1000, .synced), (0x1004, .stored)]) = true := by decide
theorem test_synci_sees_erl : refusedFor 0x049F0000#32
    (afterWrite .status (withStatus { start.cp0.status with erl := true } start).cp0 start) .executionHazard = true := by
  decide
theorem test_syscall : after 0x0000000C#32 start (took 8#5) = true := by decide
theorem test_syscall_with_bev : after 0x0000000C#32 (withStatus { start.cp0.status with bev := true, ie := true } start)
    (fun t => t.pc == 0xBFC00380#32 && t.cp0Word .status == 0x00400003#32) = true := by decide
theorem test_syscall_sees_bev : refusedFor 0x0000000C#32
    (afterWrite .status (withStatus { start.cp0.status with bev := true } start).cp0 start) .executionHazard = true := by
  decide
theorem test_break : after 0x0000000D#32 start (took 9#5) = true := by decide
/-- The spec's ruling (43_miscellaneous.md R404). -/
theorem test_sdbbp : refusedFor 0x7000003F#32 start .debugModeEntry = true := by decide
/-- The entry as 60_exceptions.md R529 describes it. -/
theorem test_sdbbp_2 : after 0x7000003F#32 (admitDebug start)
    (fun t => t.cp0.dbg.dm && t.cp0.dbg.causes.dbp && t.cp0.depc == 0x9D000000#32) = true := by decide
theorem test_movci : after 0x00011801#32 start (tookCpU 1#2) = true := by decide
theorem test_nop : after 0x00000000#32 start (fun t => t.pc == 0x9D000004#32 && decide (t.cp0 = start.cp0)) = true := by decide
theorem test_ssnop : after 0x00000040#32 start (fun t => t.pc == 0x9D000004#32 && decide (t.cp0 = start.cp0)) = true := by decide
theorem test_ehb : after 0x000000C0#32
    { start with hazards := [{ row := .other, reg := .epc, old := start.cp0, left := 2 }] }
    (fun t => t.pc == 0x9D000004#32 && t.hazards.isEmpty) = true := by decide
theorem test_rdhwr : after 0x7C02183B#32 start (fun t => t.reg 2#5 == 2#32) = true := by decide
theorem test_rdhwr_2 : after 0x7C02E83B#32 start (took 10#5) = true := by decide
theorem test_pref : after 0xCC800000#32 (withStatus (userStatus false) (withRegs [(4#5, 0xFFFFFFFF#32)] start))
    (fun t => t.pc == 0x9D000004#32) = true := by decide
theorem test_cache : after 0xBC800000#32 (withStatus (userStatus false) start) (tookCpU 0#2) = true := by decide
theorem test_cache_2 : after 0xBC800000#32 start (fun t => t.pc == 0x9D000004#32) = true := by decide
theorem test_mfc0 : after 0x40028000#32 start (fun t => t.reg 2#5 == 0xA4010582#32) = true := by decide
theorem test_mfc0_2 : after 0x40026000#32 (withStatus (userStatus true) start)
    (fun t => t.reg 2#5 == 0x10000010#32) = true := by decide
theorem test_mtc0 : after 0x40886000#32
    (withStatus { start.cp0.status with bev := true, sr := true } (withRegs [(8#5, 0xFFFFFFFF#32)] start))
    (fun t => t.cp0Word .status == 0x1A501C17#32) = true := by decide
theorem test_mtc0_2 : after 0x40886800#32 (withRegs [(8#5, 0xFFFFFFFF#32)] start)
    (fun t => t.cp0Word .cause == 0x08800300#32) = true := by decide
theorem test_mtc0_reserved_spacing : refusedFor 0x40886001#32 (withRegs [(8#5, 0x60#32)] start) .reservedVectorSpacing = true := by
  decide
theorem test_di : after 0x41686000#32 (withStatus { start.cp0.status with ie := true } start)
    (fun t => t.reg 8#5 == 1#32 && t.cp0Word .status == 0#32) = true := by decide
theorem test_di_must_be_zero : refusedFor 0x41606040#32 start .mustBeZero = true := by decide
theorem test_mfmc0_unassigned : after 0x41602800#32 start (took 10#5) = true := by decide
theorem test_ei : after 0x41686020#32 (withStatus { start.cp0.status with bev := true, erl := true } start)
    (fun t => t.reg 8#5 == 0x00400004#32 && t.cp0Word .status == 0x00400005#32) = true := by decide
theorem test_rdpgpr : after 0x415D1000#32
    ({ start with cp0 := { start.cp0 with srs := { ess := 0#2, pss := 1#2, css := 0#2 } } }.setRegOf 1#2 29#5 0xA0007FF0#32)
    (fun t => t.regOf 0#2 2#5 == 0xA0007FF0#32) = true := by decide
theorem test_wrpgpr : after 0x41C2E800#32
    (withRegs [(2#5, 0xA0007FF0#32)]
      { start with cp0 := { start.cp0 with srs := { ess := 0#2, pss := 1#2, css := 0#2 } } })
    (fun t => t.regOf 1#2 29#5 == 0xA0007FF0#32 && t.reg 29#5 == 0#32) = true := by decide
theorem test_eret : after 0x42000018#32
    { start with
      llbit := true
      cp0 := { start.cp0 with
        status := { start.cp0.status with um := true, exl := true, ie := true }
        srs := { ess := 0#2, pss := 1#2, css := 0#2 }
        epc := 0x9D001234#32 } }
    (fun t => t.pc == 0x9D001234#32 && t.cp0Word .status == 0x00000011#32 && t.cp0.srs.css == 1#2 && !t.llbit) = true := by
  decide
theorem test_eret_2 : after 0x42000018#32
    { start with cp0 := { start.cp0 with
        status := { start.cp0.status with bev := true, erl := true, exl := true }
        errorEpc := 0xBFC00400#32
        epc := 0x9D000000#32 } }
    (fun t => t.pc == 0xBFC00400#32 && t.cp0Word .status == 0x00400002#32) = true := by decide
/-- The spacing of ERET on Status is 0 (70_reset_and_hazards.md R571). -/
theorem test_eret_after_status_write : after 0x42000018#32
    (afterWrite .status (withStatus (userStatus false) start).cp0 start) (fun t => t.pc == 0#32) = true := by decide
theorem test_deret : after 0x4200001F#32 start (took 10#5) = true := by decide
theorem test_deret_2 : after 0x4200001F#32
    { start with cp0 := { start.cp0 with depc := 0x9D000040#32, dbg := { start.cp0.dbg with dm := true, iexi := true } } }
    (fun t => t.pc == 0x9D000040#32 && !t.cp0.dbg.dm && !t.cp0.dbg.iexi) = true := by decide
theorem test_wait : after 0x42000020#32 start (fun t => t.waiting && t.pc == 0x9D000004#32) = true := by decide
theorem test_wait_2 : after 0x42000020#32 (withStatus (userStatus false) start) (tookCpU 0#2) = true := by decide
theorem test_tlbr : refusedFor 0x42000001#32 start .noTlb = true := by decide
theorem test_tlbwi : refusedFor 0x42000002#32 start .noTlb = true := by decide
theorem test_tlbwi_2 : after 0x42000002#32 (withStatus (userStatus false) start) (tookCpU 0#2) = true := by decide
theorem test_tlbwr : refusedFor 0x42000006#32 start .noTlb = true := by decide
theorem test_tlbp : refusedFor 0x42000008#32 start .noTlb = true := by decide
theorem test_cop1 : after 0x46020800#32 start (tookCpU 1#2) = true := by decide
theorem test_cop2 : after 0x48020000#32 start (tookCpU 2#2) = true := by decide
theorem test_cop1x : after 0x4C000000#32 start (took 11#5) = true := by decide
theorem test_lwc1 : after 0xC4800000#32 (withRegs [(4#5, 0xA0001001#32)] start) (tookCpU 1#2) = true := by decide
theorem test_ldc1 : after 0xD4820008#32 start (tookCpU 1#2) = true := by decide
theorem test_swc1 : after 0xE4820008#32 start (tookCpU 1#2) = true := by decide
theorem test_sdc1 : after 0xF4820008#32 start (tookCpU 1#2) = true := by decide
theorem test_lwc2 : after 0xC8800000#32 start (tookCpU 2#2) = true := by decide
theorem test_ldc2 : after 0xD8820008#32 start (tookCpU 2#2) = true := by decide
theorem test_swc2 : after 0xE8820008#32 start (tookCpU 2#2) = true := by decide
theorem test_sdc2 : after 0xF8800000#32 start (tookCpU 2#2) = true := by decide
theorem test_reserved_word : after 0xFC000000#32 start (took 10#5) = true := by decide
theorem test_must_be_zero_word : refusedFor 0x00200000#32 start .mustBeZero = true := by decide

/-- One step gives a next state with a property. -/
def stepped (s : State) (p : State → Bool) : Bool :=
  match step s with
  | .next t => p t
  | .fault _ => false
  | .refused _ => false

/-- The interrupt example of 60_exceptions.md R502: requested level 3, vector 5, Cause.IV = 1, VS = 1. -/
def interrupted : State :=
  { start with
    pc := 0x9D000120#32
    intReq := { ripl := 3#3, vector := 5#6, eicss := 0#2 }
    cp0 := { start.cp0 with
      status := { start.cp0.status with ie := true }
      cause := { start.cp0.cause with iv := true }
      vs := 1#5 } }

theorem test_interrupt : stepped interrupted
    (fun t => t.pc == 0x9D0012A0#32 && t.cp0.epc == 0x9D000120#32 && t.cp0Word .status == 0x00000003#32) = true := by decide
theorem test_interrupt_not_higher : (withStatus { interrupted.cp0.status with ipl := 3#3 } interrupted).interruptTakeable = false := by
  decide
theorem test_nmi : stepped
    { withStatus { start.cp0.status with ie := true } start with pc := 0x9D000120#32, schedule := [.nmi] }
    (fun t => t.pc == 0xBFC00000#32 && t.cp0.errorEpc == 0x9D000120#32 && t.cp0Word .status == 0x00480005#32) = true := by
  decide
theorem test_no_exception_in_mips16e : (match step { interrupted with isaMode := true } with
    | .refused .mips16e => true
    | _ => false) = true := by decide
/-- 10_state.md R73. -/
theorem test_pending_bus_error : stepped
    { start with cp0 := { start.cp0 with dbg := { start.cp0.dbg with ibusep := true, dbusep := true } } }
    (fun t => t.cp0.cause.excCode == 6#5 && !t.cp0.dbg.ibusep && t.cp0.dbg.dbusep) = true := by decide
/-- 20_memory.md R150, R137: another bus master sets bits of a peripheral register. -/
theorem test_bus_write_of_device : stepped
    { start with
      cfg := { start.cfg with physMap := deviceBlock 0x1000 7 }
      devRegs := [(7, 0xAAAA5555#32)]
      schedule := [.busWrite 0x1008#32 0xF#4 0x000000FF#32] }
    (fun t => deviceGet t.devRegs 7 == 0xAAAA55FF#32) = true := by decide
theorem test_first_instruction : stepped (State.reset.withFetchWord 32 0x3C028000)
    (fun t => t.pc == 0xBFC00004#32 && t.reg 2#5 == 0x80000000#32) = true := by decide
/-- The worked example of 95_test_vectors.md A1. -/
theorem test_device_writes :
    [RegKind.base, .set, .clr, .inv].map (fun k => deviceUpdate k 0xF#4 0xAAAA5555#32 0x000000FF#32) =
      [0x000000FF#32, 0xAAAA55FF#32, 0xAAAA5500#32, 0xAAAA55AA#32] := by decide

/-! ## States that meet the hypotheses of the statements -/

/-- User mode, Coprocessor 0 not usable. -/
def user : State := withStatus (userStatus false) start

/-- In the delay slot of a branch. -/
def inSlot (s : State) : State :=
  { s with delaySlot := some { branch := s.pc - 4#32, target := 0x9D000100#32, isa := false, barrier := false } }

/-- Debug mode. -/
def inDebug (s : State) : State := { s with cp0 := { s.cp0 with dbg := { s.cp0.dbg with dm := true } } }

/-- The parameters with nothing at physical 0x1000 to 0x1FFF, and a mode for bus errors. -/
def withHole (mode : BusErrorMode) (s : State) : State :=
  { s with cfg := { s.cfg with
      busErrorMode := mode
      physMap := { base := 0x1000, size := 0x1000, fetch := .absent, load := .absent, store := .absent } ::
        s.cfg.physMap } }

/-- The parameters with peripheral register 7 at physical 0x1000. -/
def withDevice (s : State) : State :=
  { s with cfg := { s.cfg with physMap := deviceBlock 0x1000 7 ++ s.cfg.physMap } }

/-- The access of the checks that pass. -/
theorem accessOk {n : Nat} {va : Word} {s : State} {pa : Word} (h : checkAccess .load n va s = .ok pa) :
    AccessOk n va s pa := (checkAccess_ok_iff .load n va s pa).mp h

theorem witness_DecodeOfEncode :
    (Instr.sll 0#5 0#5 2#5).wellFormed = true ∧ (Instr.ext 1#5 2#5 31#5 0#5).wellFormed = true ∧
      (Instr.ins 1#5 2#5 8#5 8#5).wellFormed = true ∧ (Instr.jalr 5#5 6#5).wellFormed = true ∧
      (Instr.bltzal 30#5 4#16).wellFormed = true ∧ (Instr.movci 1#5 7#3 1#1 1#1 31#5 31#5).wellFormed = true := by decide

theorem witness_EncodeOfDecode : decode 0xFFFFFFFF#32 = .reserved ∧ decode 0x43FFFFE0#32 = .instr (.wait 0x7FFFF#19) := by
  decide

/-- Each branch of the four classes of words, and a state for each side of the usability check; for
Coprocessor0Privilege too. -/
theorem witness_UnassignedWords :
    [0xFC000000#32, 0x00000005#32, 0x041E0000#32, 0x70000003#32, 0x7C000003#32, 0x7C000020#32].all unassignedCell = true ∧
    [0x40200000#32, 0x41602800#32, 0x42000000#32].all unassignedCop0 = true ∧
    (cop0Hazard start = false ∧ start.cop0Usable = true) ∧ (cop0Hazard user = false ∧ user.cop0Usable = false) :=
  ⟨rfl, rfl, by decide, by decide⟩

theorem witness_nonzero_fields :
    [0x18010004#32, 0x3C200000#32, 0x00200080#32, 0x00400002#32, 0x00000086#32, 0x00221860#32, 0x03E10008#32,
      0x03E10009#32, 0x0001000F#32, 0x00200810#32, 0x00200811#32, 0x00220818#32, 0x70220800#32, 0x70221842#32,
      0x7C2110A0#32, 0x7C03087B#32].all nonzeroField = true ∧
    [0x40086008#32, 0x40886008#32, 0x415D1001#32, 0x41C2E840#32, 0x41606040#32, 0x41606001#32, 0x42000058#32].all
      nonzeroCop0Field = true := ⟨rfl, rfl⟩

theorem witness_StepKeepsTheInvariant : ∃ s t : State, s.Inv ∧ step s = .next t :=
  ⟨{ State.reset with schedule := [.wake] }, _, by decide, rfl⟩

/-- LUI at the reset vector. -/
def firstLui : State := State.reset.withFetchWord 32 0x3C028000

theorem witness_StepRunsTheDecodedInstruction :
    FetchReady firstLui 0x00#8 0x80#8 0x02#8 0x3C#8 ∧
      decodeBytes [0x00#8, 0x80#8, 0x02#8, 0x3C#8] = .instr (.lui 2#5 0x8000#16) ∧
      hazardSeen (.lui 2#5 0x8000#16) firstLui.ticked = false ∧ firstLui.schedule = [] ∧ firstLui.interruptTakeable = false :=
  ⟨⟨by decide, by decide, by decide, by decide, by decide, by decide, by decide, by decide, .inr (by decide), .inr (by decide),
    by decide, by decide, by decide, by decide⟩, by decide, by decide, by decide, by decide⟩

theorem witness_StepRunsTheDecodedInstruction_scheduled :
    FetchReady { firstLui with schedule := [.cpu] } 0x00#8 0x80#8 0x02#8 0x3C#8 ∧
      { firstLui with schedule := [.cpu] }.waiting = false :=
  ⟨⟨by decide, by decide, by decide, by decide, by decide, by decide, by decide, by decide, .inr (by decide), .inr (by decide),
    by decide, by decide, by decide, by decide⟩, by decide⟩

theorem witness_UserModeKeepsCoprocessor0 :
    user.userMode = true ∧ user.cp0.status.cu0 = false ∧ exec .nop user = .next user.advance := ⟨by decide, by decide, rfl⟩

/-- For ResetFetchAddress, ResetEventForcesAndKeeps and NonMaskableInterruptEntry. -/
theorem witness_events :
    { start with schedule := [.reset] }.schedule = EnvEvent.reset :: [] ∧ start.cfg.ejtagBoot = false ∧
      start.delaySlot = none ∧ (inSlot start).delaySlot.isSome = true ∧
      { start with schedule := [.nmi] }.schedule = EnvEvent.nmi :: [] ∧ start.isaMode = false ∧
      singleStepDue start = false ∧ { start with isaMode := true }.isaMode = true ∧
      { start with cfg := { start.cfg with ejtagBoot := true } }.cfg.ejtagBoot = true ∧
      singleStepDue { start with cp0 := { start.cp0 with dbg := { start.cp0.dbg with sst := true } } } = true := by decide

theorem witness_CountTickAdvancesTheTimer :
    start.cp0.cause.dc = false ∧ ¬(start.cp0.dbg.dm = true ∧ start.cp0.dbg.countdm = false) ∧
      0xFFFFFFFF#32 + 1#32 = start.cp0.compare ∧ start.cp0.count + 1#32 ≠ start.cp0.compare := by decide

/-- Also for SoftwareBreakpointEntersDebugMode (both places of the instruction) and AbsentCoprocessors. -/
theorem witness_ExceptionEntry :
    start.cp0.dbg.dm = false ∧ start.cp0.status.exl = false ∧ start.cp0.status.bev = false ∧
      start.cp0.status.erl = false ∧ start.delaySlot = none ∧
      (inSlot start).cp0.dbg.dm = false ∧ (inSlot start).delaySlot.isSome = true ∧
      (withStatus { start.cp0.status with exl := true } start).cp0.status.exl = true ∧
      State.reset.cp0.status.bev = true ∧ State.reset.cp0.dbg.dm = false ∧ start.cfg.debugEntry = .refuse ∧
      (admitDebug start).cfg.debugEntry = .enter := by decide

/-- The last vector of the largest spacing (95_test_vectors.md B9). -/
def lastVector : State :=
  { interrupted with
    intReq := { ripl := 3#3, vector := 63#6, eicss := 0#2 }
    cp0 := { interrupted.cp0 with vs := 0x10#5 } }

theorem witness_InterruptVectors :
    lastVector.cp0.dbg.dm = false ∧ lastVector.cp0.status.exl = false ∧ lastVector.cp0.cause.iv = true ∧
      lastVector.cp0.status.bev = false ∧ legalSpacing lastVector.cp0.vs = true ∧
      0x200 + lastVector.intReq.vector.toNat * (lastVector.cp0.vs.toNat * 32) = 0x8000 ∧
      (raise .int lastVector).pc = 0x9D009000#32 ∧
      (withStatus { interrupted.cp0.status with bev := true } interrupted).cp0.status.bev = true ∧
      start.cp0.cause.iv = false := by decide

theorem witness_InterruptTakenExactlyWhenEnabled :
    interrupted.interruptTakeable = true ∧
      (withStatus { interrupted.cp0.status with ie := true, ipl := 2#3 } interrupted).interruptTakeable = true ∧
      (withStatus { interrupted.cp0.status with ie := true, ipl := 3#3 } interrupted).interruptTakeable = false ∧
      interrupted.hazards = [] ∧ interrupted.isaMode = false ∧ singleStepDue interrupted = false ∧
      interrupted.interruptPossible = true ∧ entryHazard .int interrupted.ticked = false ∧
      { interrupted with isaMode := true }.interruptTakeable = true := by decide

theorem witness_FailingFetches :
    (start.schedule = [] ∧ start.isaMode = false ∧ singleStepDue start = false ∧ start.interruptTakeable = false ∧ start.cp0.dbg.ibusep = false ∧ start.cp0.dbg.dbusep = false) ∧
    { start with isaMode := true }.isaMode = true ∧ { start with pc := 0x9D000002#32 }.pc.toNat % 4 ≠ 0 ∧
    (user.userMode = true ∧ user.pc.msb = true ∧ fetchHazard user = false) ∧
    (∀ mode, { withHole mode start with pc := 0xA0001000#32 }.cfg.busErrorMode = mode ∧
      fetchTarget (withHole mode start).cfg (wordAddr (translate false 0xA0001000#32)) = .absent) := by
  refine ⟨by decide, by decide, by decide, by decide, fun mode => ?_⟩
  cases mode <;> decide

theorem witness_ExceptionReturns :
    user.cop0Usable = false ∧ (start.cop0Usable = true ∧ start.delaySlot = none ∧ start.cp0.status.erl = false) ∧
      ((inSlot start).cop0Usable = true ∧ (inSlot start).delaySlot.isSome = true) ∧
      State.reset.cp0.status.erl = true ∧ start.cp0.dbg.dm = false ∧ (inDebug start).cp0.dbg.dm = true := by decide

theorem witness_ReturnUndoesExceptionEntry :
    (inSlot start).cp0.dbg.dm = false ∧ (inSlot start).cp0.status.exl = false ∧ (inSlot start).cp0.status.erl = false ∧
      (inSlot start).restartPc.getLsbD 0 = false := by decide

/-- `$4` at 0xA0001000 + `k`, from where loads and stores of `n` bytes go. -/
def pointing (k : Nat) (s : State) : State := withRegs [(4#5, 0xA0001000#32 + BitVec.ofNat 32 k)] (withBytes vectorBytes s)

/-- For LoadsReadMemory, PartialLoadsMerge, StoresWriteMemory, PartialStoresWriteTheirBytes and LoadLinkedSetsTheLink:
accesses that pass, at the last place each alignment allows. -/
theorem witness_access :
    AccessOk 1 ((pointing 3 start).effectiveAddress 4#5 0#16) (pointing 3 start) 0x1003#32 ∧
      AccessOk 2 ((pointing 2 start).effectiveAddress 4#5 0#16) (pointing 2 start) 0x1002#32 ∧
      AccessOk 4 ((pointing 8 start).effectiveAddress 4#5 0xFFFC#16) (pointing 8 start) 0x1004#32 ∧
      LoadsStorage (pointing 3 start) 0x1003#32 ∧ storeTarget (pointing 3 start).cfg (wordAddr 0x1003#32) = .ram :=
  ⟨accessOk (by decide), accessOk (by decide), accessOk (by decide), .inl (by decide), by decide⟩

/-- The same statements: the last word of useg, and the first address above it. -/
theorem witness_access_in_user_mode :
    user.userMode = true ∧ AccessOk 4 0x7FFFFFFC#32 user 0xBFFFFFFC#32 ∧ LoadsStorage user 0xBFFFFFFC#32 ∧
      AddressError 1 0x80000000#32 user := ⟨by decide, accessOk (by decide), .inl (by decide), .inr (by decide)⟩

/-- The same statements: storage that is Flash. -/
theorem witness_access_of_flash : LoadsStorage start 0x1FC00000#32 := .inr (by decide)

/-- The same statements and StoreConditional: misaligned addresses. -/
theorem witness_misaligned : AddressError 2 0xA0001001#32 start ∧ AddressError 4 0xA0001002#32 start :=
  ⟨.inl (by decide), .inl (by decide)⟩

/-- The same statements: an access the bus rejects, in both modes. -/
theorem witness_bus_error (mode : BusErrorMode) :
    (withHole mode start).cfg.busErrorMode = mode ∧ AccessOk 4 0xA0001000#32 (withHole mode start) 0x1000#32 ∧
      loadTarget (withHole mode start).cfg (wordAddr 0x1000#32) = .absent ∧
      storeTarget (withHole mode start).cfg (wordAddr 0x1000#32) = .absent := by
  cases mode <;> exact ⟨by decide, accessOk (by decide), by decide, by decide⟩

theorem witness_UnalignedLoadPair :
    (4#5 : Reg) ≠ 2#5 ∧ (2#5 : Reg) ≠ 0#5 ∧
      (pointing 1 start).effectiveAddress 4#5 3#16 = (pointing 1 start).effectiveAddress 4#5 0#16 + 3#32 ∧
      AccessOk 1 ((pointing 1 start).effectiveAddress 4#5 0#16) (pointing 1 start) 0x1001#32 ∧
      AccessOk 1 ((pointing 1 start).effectiveAddress 4#5 3#16) (pointing 1 start) 0x1004#32 ∧
      LoadsStorage (pointing 1 start) 0x1001#32 ∧ LoadsStorage (pointing 1 start) 0x1004#32 ∧
      (0x1004#32 : Word).toNat = (0x1001#32 : Word).toNat + 3 :=
  ⟨by decide, by decide, by decide, accessOk (by decide), accessOk (by decide), .inl (by decide), .inl (by decide), by decide⟩

theorem witness_PeripheralRegisterAccess :
    AccessOk 4 ((pointing 0 (withDevice start)).effectiveAddress 4#5 0#16) (pointing 0 (withDevice start)) 0x1000#32 ∧
      loadTarget (withDevice start).cfg (wordAddr 0x1000#32) = .device 7 .base ∧
      loadTarget (withDevice start).cfg (wordAddr 0x1004#32) = .device 7 .clr ∧
      storeTarget (withDevice start).cfg (wordAddr 0x1000#32) = .device 7 .base ∧
      storeTarget (withDevice start).cfg (wordAddr 0x1004#32) = .device 7 .clr ∧
      storeTarget (withDevice start).cfg (wordAddr 0x1008#32) = .device 7 .set ∧
      storeTarget (withDevice start).cfg (wordAddr 0x100C#32) = .device 7 .inv :=
  ⟨accessOk (by decide), by decide, by decide, by decide, by decide, by decide, by decide⟩

theorem witness_StoreConditional :
    { pointing 4 start with llbit := true }.llbit = true ∧ (pointing 4 start).llbit = false ∧
      AccessOk 4 ((pointing 4 start).effectiveAddress 4#5 0#16) (pointing 4 start) 0x1004#32 :=
  ⟨by decide, by decide, accessOk (by decide)⟩

/-- `s` with one word marked. -/
def marked (c : CodeState) (s : State) : State := { s with codeWords := [(0x1000, c)] }

theorem witness_StoredCodeNeedsSynchronization :
    (∃ t, exec (.sw 4#5 4#5 0#16) (pointing 0 start) = .next t) ∧ (pointing 0 start).cfg.fetchCoherence = .barrier ∧
      storeTarget (pointing 0 start).cfg (wordAddr 0x1000#32) = .ram ∧
      AccessOk 4 ((pointing 0 start).effectiveAddress 4#5 0#16) (pointing 0 start) 0x1000#32 ∧
      { pointing 0 start with llbit := true }.llbit = true :=
  ⟨⟨_, (withStore_ram (n := 4) (va := (pointing 0 start).effectiveAddress 4#5 0#16) (s := pointing 0 start)
      (pa := 0x1000#32) (laneWord ((pointing 0 start).reg 4#5)) State.advance (accessOk (by decide)) (by decide) :
      execSw 4#5 4#5 0#16 (pointing 0 start) = _)⟩, by decide, by decide, accessOk (by decide), rfl⟩

theorem witness_StoredCodeNeedsSynchronization_barriers (c : CodeState) (hc : c = .stored ∨ c = .synced ∨ c = .foreign) :
    ((marked c start).Inv ∧ (marked c start).cop0Usable = true ∧ codeStateAt (marked c start).codeWords 0x1000 = c) ∧
      (∃ t, exec .eret (marked c start) = .next t) ∧
      ((marked c (admitDebug (inDebug start))).Inv ∧ (marked c (admitDebug (inDebug start))).cp0.dbg.dm = true) ∧
      (∃ t, exec .deret (marked c (admitDebug (inDebug start))) = .next t) ∧
      ((start.branchVia 0x9D000100#32 false true).delaySlot = some
          { branch := start.pc, target := 0x9D000100#32, isa := false, barrier := true } ∧
        (marked c (start.branchVia 0x9D000100#32 false true)).Inv) := by
  rcases hc with rfl | rfl | rfl <;>
    exact ⟨⟨by decide, by decide, by decide⟩, ⟨_, rfl⟩, ⟨by decide, by decide⟩, ⟨_, rfl⟩, by decide, by decide⟩

/-- 20_memory.md R149: without SYNCI an ERET leaves a stored word unfetchable. -/
theorem test_eret_without_synci :
    match exec .eret (marked .stored start) with
    | .next t => codeStateAt t.codeWords 0x1000 = .stored
    | _ => False := rfl

theorem witness_FixedMapping :
    (translate true 0x1FFFFFFF#32 = 0x1FFFFFFF#32 ∧ translate true 0x20000000#32 = 0x60000000#32) ∧
      (translate false 0x00000000#32 = 0x40000000#32 ∧ translate false 0x7FFFFFFF#32 = 0xBFFFFFFF#32) ∧
      (translate false 0x80000000#32 = 0#32 ∧ translate false 0x9FFFFFFF#32 = 0x1FFFFFFF#32) ∧
      (translate false 0xA0000000#32 = 0#32 ∧ translate false 0xBFFFFFFF#32 = 0x1FFFFFFF#32) ∧
      (translate false 0xC0000000#32 = 0xC0000000#32 ∧ translate false 0xFFFFFFFF#32 = 0xFFFFFFFF#32) := by decide

theorem witness_TrappingArithmetic :
    (0x7FFFFFFE#32 : Word).toInt + (1#32 : Word).toInt < (2 : Int) ^ 31 ∧
      ¬((0x7FFFFFFF#32 : Word).toInt + (1#32 : Word).toInt < (2 : Int) ^ 31) ∧
      -(2 : Int) ^ 31 ≤ (0x80000001#32 : Word).toInt - (1#32 : Word).toInt ∧
      ¬(-(2 : Int) ^ 31 ≤ (0x80000000#32 : Word).toInt - (1#32 : Word).toInt) := by decide

theorem witness_ShiftsAndRotates : (Instr.sll 1#5 0#5 0#5).wellFormed = true ∧ (Instr.sll 0#5 0#5 2#5).wellFormed = true := by
  decide

theorem witness_LeadingBitCounts : (3#5 : Reg) ≠ 2#5 := by decide

theorem witness_BitFieldsAndExtensions :
    (31#5 : BitVec 5).toNat + (0#5 : BitVec 5).toNat ≤ 31 ∧ 31 < (31#5 : BitVec 5).toNat + (1#5 : BitVec 5).toNat ∧
      (8#5 : BitVec 5).toNat ≤ (8#5 : BitVec 5).toNat ∧ (7#5 : BitVec 5).toNat < (8#5 : BitVec 5).toNat := by decide

theorem witness_Division :
    (0xFFFFFFFF#32 : Word).toInt ≠ 0 ∧
      ¬((0x80000001#32 : Word).toInt = -(2 : Int) ^ 31 ∧ (0xFFFFFFFF#32 : Word).toInt = -1) ∧
      ((0x80000000#32 : Word).toInt = -(2 : Int) ^ 31 ∧ (0xFFFFFFFF#32 : Word).toInt = -1) ∧ (0#32 : Word).toInt = 0 := by
  decide

/-- Also for Branches and LinkingBranches. -/
theorem witness_Jumps : start.delaySlot = none ∧ (5#5 : Reg) ≠ 6#5 ∧ (30#5 : Reg) ≠ 31#5 := by decide

theorem witness_NoControlTransferInDelaySlot :
    (inSlot start).delaySlot = some { branch := 0x9CFFFFFC#32, target := 0x9D000100#32, isa := false, barrier := false } ∧
      (inSlot start).cop0Usable = true := by decide

theorem witness_TrapInstructions :
    (0#32 : Word).toInt ≤ (0#32 : Word).toInt ∧ ¬((0#32 : Word).toInt ≤ (0xFFFFFFFF#32 : Word).toInt) ∧
      (0#32 : Word).toNat ≤ (0xFFFFFFFF#32 : Word).toNat ∧ (0xFFFFFFFF#32 : Word).toInt < (0xFFFF#16 : BitVec 16).toInt + 1 := by
  decide

theorem witness_SystemCallAndBreakpoint :
    start.cp0.dbg.dm = false ∧ start.cp0.status.exl = false ∧ start.delaySlot = none ∧
      (inSlot start).cp0.dbg.dm = false ∧ (inSlot start).cp0.status.exl = false ∧ (inSlot start).delaySlot.isSome = true ∧
      start.hazards = [] ∧ entryHazard .sys start = false ∧
      entryHazard .sys (afterWrite .status State.reset.cp0 start) = true := by decide

theorem witness_ConditionalMoves :
    (withRegs [(2#5, 1#32)] start).reg 2#5 ≠ 0#32 ∧ start.reg 2#5 = 0#32 := by decide

theorem witness_ReadHardwareRegister :
    (3 < (4#5 : Reg).toNat ∧ (3#5 : Reg).toNat ≤ 3) ∧
      (user.userMode = true ∧ user.cp0.status.cu0 = false ∧ user.cp0.hwrEna.getLsbD 3 = false) ∧
      { user.cp0 with hwrEna := 0x8#4 }.hwrEna.getLsbD 3 = true ∧ start.userMode = false := by decide

/-- Also for InstructionsWithoutEffect, InterruptEnableAndSetMoves and TlbInstructionsRefused. -/
theorem witness_Coprocessor0Privilege :
    start.cop0Usable = true ∧ user.cop0Usable = false ∧ cop0Hazard user = false ∧
      (withStatus (userStatus true) start).cop0Usable = true := by decide

/-- The parameters with the trace registers and Debug2, without shadow sets. -/
def traced (s : State) : State :=
  { s with cfg := { s.cfg with hasTrace := true, hasComplexBreak := true, shadowSets := .one } }

theorem witness_MoveFromCoprocessor0 :
    start.cop0Usable = true ∧ start.cfg.shadowSets ≠ .one ∧ (inDebug start).cp0.dbg.dm = true ∧
      start.cp0.dbg.dm = false ∧ cp0RegOf start.cfg 3#5 0#3 = .reserved ∧ (traced start).cfg.hasTrace = true ∧
      (traced start).cfg.hasComplexBreak = true ∧ (traced start).cp0.tcbLoaded = false ∧
      { (traced start).cp0 with tcbLoaded := true }.tcbLoaded = true ∧ (traced start).cfg.shadowSets = .one ∧
      (traced start).cop0Usable = true := by decide

theorem witness_MoveToCoprocessor0 :
    (withRegs [(8#5, 4#32)] start).pc.toNat ≥ 0x80000000 ∧ legalSpacing 0x10#5 = true ∧
      ((0x00001040#32 : Word).extractLsb' 12 4).toNat ≤ start.cfg.shadowSets.hss.toNat ∧
      ((0x00001040#32 : Word).extractLsb' 6 4).toNat ≤ start.cfg.shadowSets.hss.toNat ∧
      State.reset.cp0.status.bev = true ∧ State.reset.cop0Usable = true ∧
      legalCoherency ((0x06000003#32 : Word).extractLsb' 25 3) = true ∧
      legalCoherency ((0x06000003#32 : Word).extractLsb' 0 3) = true ∧ start.cfg.shadowSets ≠ .one ∧
      (∀ k, k < 8 → ((0x11111111#32 : Word).extractLsb' (4 * k) 4).toNat ≤ start.cfg.shadowSets.hss.toNat) ∧
      (inDebug start).cop0Usable = true ∧ (inDebug start).cp0.dbg.dm = true ∧ (traced start).cfg.hasTrace = true := by decide

theorem witness_RefusedCoprocessor0Writes :
    start.cop0Usable = true ∧ (0x60#32 : Word).extractLsb' 5 5 ∉ [0x00#5, 0x01#5, 0x02#5, 0x04#5, 0x08#5, 0x10#5] ∧
      start.cfg.shadowSets.hss.toNat < ((0x00002000#32 : Word).extractLsb' 12 4).toNat ∧
      start.cfg.shadowSets.hss.toNat < ((0x20000000#32 : Word).extractLsb' (4 * 7) 4).toNat ∧
      start.cp0.status.bev = false ∧ (0x9D002000#32 : Word).extractLsb' 12 18 ≠ start.cp0.ebase ∧
      (0#32 : Word).extractLsb' 25 3 ∉ [2#3, 3#3] ∧ start.cp0.dbg.dm = false ∧
      { start with pc := 0x7FFFFFFC#32 }.pc.toNat < 0x80000000 ∧
      { start with cfg := { start.cfg with shadowSets := .one } }.cop0Usable = true ∧ start.cfg.shadowSets ≠ .one := by decide

theorem witness_WaitingForAnEvent :
    interrupted.cop0Usable = true ∧ interrupted.delaySlot = none ∧
      { interrupted.advance with waiting := true, schedule := [.interrupt] }.interruptTakeable = true ∧
      interrupted.isaMode = false ∧ interrupted.cfg.ejtagBoot = false ∧
      singleStepDue { interrupted.advance with waiting := true, schedule := [.interrupt] } = false ∧
      entryHazard .int { interrupted.advance with waiting := true, schedule := [.interrupt] }.ticked = false := by decide

/-- The MTC0 of `v` (in `$8`) to a register, executed in `s`, with no hazard pending before it, answers a next state in
which `p` holds. -/
def MovesTo (v : Word) (rd : Reg) (sel : BitVec 3) (s : State) (p : State → State → Prop) : Prop :=
  let u := withRegs [(8#5, v)] s
  ∃ t, exec (.mtc0 8#5 rd sel) u = .next t ∧ u.hazards = [] ∧ u.cop0Usable = true ∧ p u t

theorem witness_HazardOfACoprocessor0Write :
    MovesTo 0x9D001235#32 14#5 0#3 start fun s t => t.cop0Usable = true ∧ s.cp0Word .epc ≠ t.cp0Word .epc ∧
      t.cp0.status.erl = false ∧ s.cp0.epc ≠ t.cp0.epc ∧ t.userMode = s.userMode :=
  ⟨_, rfl, by decide, by decide, by decide⟩

theorem witness_HazardOfACoprocessor0Write_on_CU0 :
    MovesTo 0x10000010#32 12#5 0#3 start fun s t => s.cp0.status.cu0 ≠ t.cp0.status.cu0 ∧ t.userMode = true :=
  ⟨_, rfl, by decide, by decide, by decide⟩

theorem witness_HazardOfACoprocessor0Write_on_ErrorEPC :
    MovesTo 0x9D001235#32 30#5 0#3 (withStatus { start.cp0.status with erl := true } start) fun s t =>
      t.cop0Usable = true ∧ t.cp0.status.erl = true ∧ s.cp0.errorEpc ≠ t.cp0.errorEpc :=
  ⟨_, rfl, by decide, by decide, by decide⟩

theorem witness_HazardOfACoprocessor0Write_on_DEPC :
    MovesTo 0x9D001235#32 24#5 0#3 (inDebug start) fun s t =>
      t.cop0Usable = true ∧ t.cp0.dbg.dm = true ∧ s.cp0.depc ≠ t.cp0.depc :=
  ⟨_, rfl, by decide, by decide, by decide⟩

theorem witness_HazardOfACoprocessor0Write_on_PSS :
    MovesTo 0x00000040#32 12#5 2#3 start fun s t =>
      t.cop0Usable = true ∧ s.cp0.srs.pss ≠ t.cp0.srs.pss ∧ t.cp0.status.erl = false ∧ t.cp0.status.bev = false :=
  ⟨_, rfl, by decide, by decide, by decide⟩

theorem witness_HazardOfACoprocessor0Write_on_IE :
    MovesTo 0#32 12#5 0#3 interrupted fun s t =>
      cp0RegOf s.cfg 12#5 0#3 = .status ∧ s.cp0.status.cu0 = t.cp0.status.cu0 ∧
        s.cp0.status.ie = true ∧ t.cp0.status.ie = false ∧
        takeableUnder t.intReq { t.cp0 with status := { t.cp0.status with ie := true } } = true :=
  ⟨_, rfl, by decide, by decide, by decide⟩

theorem witness_HazardOfACoprocessor0Write_on_BEV :
    MovesTo 0x00400000#32 12#5 0#3 start fun s t => s.cp0.dbg.dm = false ∧ s.cp0.status.bev ≠ t.cp0.status.bev :=
  ⟨_, rfl, by decide, by decide, by decide⟩

theorem witness_UserModeReachesNoPeripheral :
    user.Inv ∧ user.userMode = true ∧ AccessOk 4 0x7FFFFFFC#32 user 0xBFFFFFFC#32 ∧
      { user with pc := 0#32 }.Inv ∧ { user with pc := 0#32 }.pc.msb = false ∧ exec .nop user = .next user.advance :=
  ⟨by decide, by decide, accessOk (by decide), by decide, by decide, rfl⟩

end Sys2Proof.Tests
end

section
/-!
The value of `translate` on each segment (20_memory.md R129), one rule per branch of its definition, and O30 assembled
from them.
-/
namespace Sys2Proof.Machine

open Sys2Proof

/-- With ERL set, the lower 2^29 bytes of kuseg are unmapped. -/
theorem translate_kuseg_of_erl {va : Word} (h : va.toNat < 0x20000000) : translate true va = va := by
  have hseg : va.toNat < 0x80000000 := by omega
  simp [translate, hseg, h]

/-- The rest of kuseg, and all of it with ERL clear, is mapped 0x40000000 higher; the sum does not wrap. -/
theorem toNat_translate_kuseg {erl : Bool} {va : Word} (h : va.toNat < 0x80000000)
    (herl : erl = false ∨ 0x20000000 ≤ va.toNat) : (translate erl va).toNat = va.toNat + 0x40000000 := by
  have hmapped : (erl && decide (va.toNat < 0x20000000)) = false := by
    rcases herl with rfl | hva
    · rfl
    · simpa using fun _ => hva
  have hval : translate erl va = va + 0x40000000#32 := by simp [translate, h, hmapped]
  rw [hval, BitVec.toNat_add_of_lt (by simp only [BitVec.toNat_ofNat]; omega), BitVec.toNat_ofNat]

/-- kseg0 is a window onto the lowest 512 MB. -/
theorem toNat_translate_kseg0 (erl : Bool) {va : Word} (hlo : 0x80000000 ≤ va.toNat) (hhi : va.toNat < 0xA0000000) :
    (translate erl va).toNat = va.toNat - 0x80000000 := by
  have hval : translate erl va = va - 0x80000000#32 := by simp [translate, hlo.not_gt, hhi]
  rw [hval, BitVec.toNat_sub_of_le hlo, BitVec.toNat_ofNat]

/-- kseg1 is a window onto the same 512 MB as kseg0. -/
theorem toNat_translate_kseg1 (erl : Bool) {va : Word} (hlo : 0xA0000000 ≤ va.toNat) (hhi : va.toNat < 0xC0000000) :
    (translate erl va).toNat = va.toNat - 0xA0000000 := by
  have hkuseg : ¬va.toNat < 0x80000000 := by omega
  have hval : translate erl va = va - 0xA0000000#32 := by simp [translate, hkuseg, hlo.not_gt, hhi]
  rw [hval, BitVec.toNat_sub_of_le hlo, BitVec.toNat_ofNat]

/-- kseg2 and kseg3 keep their addresses. -/
theorem translate_kseg23 (erl : Bool) {va : Word} (h : 0xC0000000 ≤ va.toNat) : translate erl va = va := by
  have hkuseg : ¬va.toNat < 0x80000000 := by omega
  have hkseg0 : ¬va.toNat < 0xA0000000 := by omega
  simp [translate, hkuseg, hkseg0, h.not_gt]

/-- Settles O30: each clause is the rule of its segment. -/
theorem fixedMapping : Obligations.FixedMapping := by
  unfold Obligations.FixedMapping
  intro erl va
  refine ⟨?unmapped, toNat_translate_kuseg, toNat_translate_kseg0 erl, toNat_translate_kseg1 erl, ?kseg23⟩
  case unmapped =>
    rintro h rfl
    rw [translate_kuseg_of_erl h]
  case kseg23 =>
    intro h
    rw [translate_kseg23 erl h]

end Sys2Proof.Machine
end

section
/-!
Loads and stores (40_load_store.md): how their words decode, how an access fails, the lanes a load reads and a store
writes, one rule for every load and one for every store, and O21, O22, O24, O25 and O27 assembled from them.
-/
namespace Sys2Proof.Machine

open Sys2Proof

/-! ## The words of the loads and stores (30_encoding.md R189) -/

section Decoding
variable (base rt : Reg) (offset : BitVec 16)

theorem decode_lb : decode (encI 0x20#6 base rt offset) = .instr (.lb base rt offset) := by simp [decode]
theorem decode_lh : decode (encI 0x21#6 base rt offset) = .instr (.lh base rt offset) := by simp [decode]
theorem decode_lwl : decode (encI 0x22#6 base rt offset) = .instr (.lwl base rt offset) := by simp [decode]
theorem decode_lw : decode (encI 0x23#6 base rt offset) = .instr (.lw base rt offset) := by simp [decode]
theorem decode_lbu : decode (encI 0x24#6 base rt offset) = .instr (.lbu base rt offset) := by simp [decode]
theorem decode_lhu : decode (encI 0x25#6 base rt offset) = .instr (.lhu base rt offset) := by simp [decode]
theorem decode_lwr : decode (encI 0x26#6 base rt offset) = .instr (.lwr base rt offset) := by simp [decode]
theorem decode_sb : decode (encI 0x28#6 base rt offset) = .instr (.sb base rt offset) := by simp [decode]
theorem decode_sh : decode (encI 0x29#6 base rt offset) = .instr (.sh base rt offset) := by simp [decode]
theorem decode_swl : decode (encI 0x2A#6 base rt offset) = .instr (.swl base rt offset) := by simp [decode]
theorem decode_sw : decode (encI 0x2B#6 base rt offset) = .instr (.sw base rt offset) := by simp [decode]
theorem decode_swr : decode (encI 0x2E#6 base rt offset) = .instr (.swr base rt offset) := by simp [decode]
theorem decode_ll : decode (encI 0x30#6 base rt offset) = .instr (.ll base rt offset) := by simp [decode]

end Decoding

/-! ## Their meanings, each one data access -/

section Meanings
variable (base rt : Reg) (offset : BitVec 16) (s : State)

theorem exec_lb : exec (.lb base rt offset) s = withLoad 1 (s.effectiveAddress base offset) s fun w t =>
    completeReg t rt (sext8 (byteLane w (laneOf (s.effectiveAddress base offset)))) := rfl
theorem exec_lbu : exec (.lbu base rt offset) s = withLoad 1 (s.effectiveAddress base offset) s fun w t =>
    completeReg t rt ((byteLane w (laneOf (s.effectiveAddress base offset))).zeroExtend 32) := rfl
theorem exec_lh : exec (.lh base rt offset) s = withLoad 2 (s.effectiveAddress base offset) s fun w t =>
    completeReg t rt (sext16 (halfLane w (laneOf (s.effectiveAddress base offset)))) := rfl
theorem exec_lhu : exec (.lhu base rt offset) s = withLoad 2 (s.effectiveAddress base offset) s fun w t =>
    completeReg t rt (zext16 (halfLane w (laneOf (s.effectiveAddress base offset)))) := rfl
theorem exec_lw : exec (.lw base rt offset) s = withLoad 4 (s.effectiveAddress base offset) s fun w t =>
    completeReg t rt w := rfl
theorem exec_lwl : exec (.lwl base rt offset) s = withLoad 1 (s.effectiveAddress base offset) s fun w t =>
    completeReg t rt (mergeLeft (laneOf (s.effectiveAddress base offset)) w (t.reg rt)) := rfl
theorem exec_lwr : exec (.lwr base rt offset) s = withLoad 1 (s.effectiveAddress base offset) s fun w t =>
    completeReg t rt (mergeRight (laneOf (s.effectiveAddress base offset)) w (t.reg rt)) := rfl
theorem exec_ll : exec (.ll base rt offset) s = withLoad 4 (s.effectiveAddress base offset) s fun w t =>
    completeReg { t with llbit := true } rt w := rfl
theorem exec_sb : exec (.sb base rt offset) s = withStore 1 (s.effectiveAddress base offset)
    (laneByte (laneOf (s.effectiveAddress base offset)) (s.reg rt)) s State.advance := rfl
theorem exec_sh : exec (.sh base rt offset) s = withStore 2 (s.effectiveAddress base offset)
    (laneHalf (laneOf (s.effectiveAddress base offset)) (s.reg rt)) s State.advance := rfl
theorem exec_sw : exec (.sw base rt offset) s = withStore 4 (s.effectiveAddress base offset)
    (laneWord (s.reg rt)) s State.advance := rfl
theorem exec_swl : exec (.swl base rt offset) s = withStore 1 (s.effectiveAddress base offset)
    (laneLeft (laneOf (s.effectiveAddress base offset)) (s.reg rt)) s State.advance := rfl
theorem exec_swr : exec (.swr base rt offset) s = withStore 1 (s.effectiveAddress base offset)
    (laneRight (laneOf (s.effectiveAddress base offset)) (s.reg rt)) s State.advance := rfl

end Meanings

/-! ## Addresses -/

/-- R220 in integers: the sum wraps at 2^32. -/
theorem State.effectiveAddress_eq_ofInt (s : State) (base : Reg) (offset : BitVec 16) :
    s.effectiveAddress base offset = BitVec.ofInt 32 ((s.reg base).toInt + offset.toInt) := by
  rw [BitVec.ofInt_add, BitVec.ofInt_toInt]
  rfl

theorem laneOf_lt (a : Word) : laneOf a < 4 := Nat.mod_lt _ (by decide)

/-- The physical address of an access has the place of its virtual address inside the aligned word. -/
theorem AccessOk.laneOf_eq {n : Nat} {va : Word} {s : State} {pa : Word} (h : AccessOk n va s pa) :
    laneOf va = laneOf pa := by
  rw [h.translated, laneOf_translate]

/-- An access of a halfword keeps to the lower or the upper half of the aligned word. -/
theorem AccessOk.laneOf_even {va : Word} {s : State} {pa : Word} (h : AccessOk 2 va s pa) : laneOf pa % 2 = 0 := by
  have haligned := h.aligned
  rw [← h.laneOf_eq, laneOf]
  omega

/-- An access of a word starts at the word address. -/
theorem AccessOk.laneOf_zero {va : Word} {s : State} {pa : Word} (h : AccessOk 4 va s pa) : laneOf pa = 0 :=
  h.laneOf_eq.symm.trans h.aligned

/-! ## How an access fails (20_memory.md R139, 60_exceptions.md R478) -/

/-- The two address errors come before every other check. -/
theorem checkAccess_of_addressError {kind : DataKind} {n : Nat} {va : Word} {s : State} (h : AddressError n va s) :
    checkAccess kind n va s = .trap (kind.addressError va) := by
  by_cases haligned : va.toNat % n = 0
  · obtain hmis | ⟨huser, hmsb⟩ := h
    · exact absurd haligned hmis
    · simp [checkAccess, haligned, huser, hmsb]
  · simp [checkAccess, haligned]

theorem takes_dataBusError {va : Word} {s : State} (h : s.cfg.busErrorMode = .precise) :
    Takes (dataBusError va s) .dbe s := by
  have heq : dataBusError va s = takeException .dbe s := by simp [dataBusError, h]
  exact heq ▸ takes_takeException .dbe s

theorem dataBusError_of_fault {va : Word} {s : State} (h : s.cfg.busErrorMode = .fault) :
    dataBusError va s = .fault (.dataBusError va) := by
  simp [dataBusError, h]

/-- Whatever answers address errors and absent targets as the data access does fails as `AccessFails` says. -/
theorem AccessFails.of_eq {i : Instr} {n : Nat} {va : Word} {e : Exc} {target : Config → Nat → Target} {s : State}
    (haddress : AddressError n va s → exec i s = takeException e s)
    (habsent : ∀ pa, AccessOk n va s pa → target s.cfg (wordAddr pa) = .absent → exec i s = dataBusError va s) :
    AccessFails i n va e target s where
  addressError h := haddress h ▸ takes_takeException e s
  busError pa hok ht := by
    rw [habsent pa hok ht]
    exact ⟨takes_dataBusError, dataBusError_of_fault⟩

theorem AccessFails.of_withLoad {i : Instr} {n : Nat} {va : Word} {s : State} {k : Word → State → Out}
    (h : exec i s = withLoad n va s k) : AccessFails i n va (.adel va) loadTarget s := by
  refine .of_eq (fun haddress => ?_) (fun pa hok ht => ?_)
  · rw [h, withLoad, checkAccess_of_addressError haddress]
    rfl
  · rw [h, withLoad, (checkAccess_ok_iff .load n va s pa).mpr hok]
    simp only [ht]

theorem AccessFails.of_withStore {i : Instr} {n : Nat} {va : Word} {w : LaneStore} {s : State} {k : State → State}
    (h : exec i s = withStore n va w s k) : AccessFails i n va (.ades va) storeTarget s := by
  refine .of_eq (fun haddress => ?_) (fun pa hok ht => ?_)
  · rw [h, withStore, checkAccess_of_addressError haddress]
    rfl
  · rw [h, withStore, (checkAccess_ok_iff .store n va s pa).mpr hok]
    simp only [ht]

/-! ## Loads -/

theorem sext8_eq_ofInt (b : Byte) : sext8 b = BitVec.ofInt 32 b.toInt := rfl

theorem sext16_eq_ofInt (h : BitVec 16) : sext16 h = BitVec.ofInt 32 h.toInt := rfl

/-- A load whose meaning writes `f` of the aligned word to `rt` loads `value` where the two agree. -/
theorem LoadRule.of_withLoad {i : Instr} {n : Nat} {va : Word} {rt : Reg} {f : Word → State → Word}
    {value : Nat → Word} {s : State} (h : exec i s = withLoad n va s fun w t => completeReg t rt (f w t))
    (hvalue : ∀ pa, AccessOk n va s pa → f (readWord s.mem (wordAddr pa)) s = value pa.toNat) :
    LoadRule i n va rt value s where
  loads pa hok hs := .of_completeReg (by rw [h, withLoad_storage _ hok hs, hvalue pa hok])
  fails := .of_withLoad h

/-- The byte lane at a place of the aligned word is the byte at the address. -/
theorem byteLane_readWord_laneOf (m : List Host.Cell) (pa : Word) :
    byteLane (readWord m (wordAddr pa)) (laneOf pa) = readByte m pa.toNat := by
  rw [byteLane_readWord _ _ _ (laneOf_lt pa), wordAddr_add_laneOf]

/-- A halfword lane is two byte lanes. -/
theorem halfLane_eq_append (w : Word) (b : Nat) : halfLane w b = byteLane w (b + 1) ++ byteLane w b :=
  (BitVec.extractLsb'_append_extractLsb'_eq_extractLsb' (x := w) (by omega : 8 * (b + 1) = 8 * b + 8)).symm

/-- The halfword lane at an even place is the little-endian halfword at the address. -/
theorem halfLane_readWord_laneOf (m : List Host.Cell) {pa : Word} (h : laneOf pa % 2 = 0) :
    halfLane (readWord m (wordAddr pa)) (laneOf pa) = readByte m (pa.toNat + 1) ++ readByte m pa.toNat := by
  have hlt := laneOf_lt pa
  rw [halfLane_eq_append, byteLane_readWord_laneOf, byteLane_readWord _ _ _ (by omega), ← Nat.add_assoc,
    wordAddr_add_laneOf]

/-- At place 0 the aligned word is the little-endian word at the address. -/
theorem readWord_wordAddr (m : List Host.Cell) {pa : Word} (h : laneOf pa = 0) :
    readWord m (wordAddr pa) =
      readByte m (pa.toNat + 3) ++ readByte m (pa.toNat + 2) ++ readByte m (pa.toNat + 1) ++ readByte m pa.toNat := by
  have hpa : wordAddr pa = pa.toNat := by rw [← wordAddr_add_laneOf pa, h, Nat.add_zero]
  rw [hpa]
  rfl

/-- Settles O21: each load extends the lane that holds the bytes at its address. -/
theorem loadsReadMemory : Obligations.LoadsReadMemory := by
  unfold Obligations.LoadsReadMemory
  intro base rt offset s
  refine ⟨s.effectiveAddress_eq_ofInt base offset,
    ⟨decode_lb base rt offset, .of_withLoad (exec_lb base rt offset s) ?lb⟩,
    ⟨decode_lbu base rt offset, .of_withLoad (exec_lbu base rt offset s) ?lbu⟩,
    ⟨decode_lh base rt offset, .of_withLoad (exec_lh base rt offset s) ?lh⟩,
    ⟨decode_lhu base rt offset, .of_withLoad (exec_lhu base rt offset s) ?lhu⟩,
    ⟨decode_lw base rt offset, .of_withLoad (exec_lw base rt offset s) ?lw⟩⟩
  case lb =>
    intro pa hok
    rw [hok.laneOf_eq, byteLane_readWord_laneOf, sext8_eq_ofInt]
  case lbu =>
    intro pa hok
    rw [hok.laneOf_eq, byteLane_readWord_laneOf, BitVec.zeroExtend, BitVec.ofNat_toNat]
  case lh =>
    intro pa hok
    rw [hok.laneOf_eq, halfLane_readWord_laneOf _ hok.laneOf_even, sext16_eq_ofInt]
  case lhu =>
    intro pa hok
    rw [hok.laneOf_eq, halfLane_readWord_laneOf _ hok.laneOf_even, zext16, BitVec.zeroExtend,
      BitVec.ofNat_toNat]
  case lw =>
    intro pa hok
    exact readWord_wordAddr s.mem hok.laneOf_zero

/-- Settles O27: LL is LW in the state with LLbit set, and no exception touches LLbit. -/
theorem loadLinkedSetsTheLink : Obligations.LoadLinkedSetsTheLink := by
  unfold Obligations.LoadLinkedSetsTheLink
  intro base rt offset s
  refine ⟨decode_ll base rt offset, fun pa hok hs => ?loads, .of_withLoad (exec_ll base rt offset s),
    fun e => raise_llbit e s⟩
  case loads =>
    rw [← readWord_wordAddr s.mem hok.laneOf_zero]
    exact ⟨_, (exec_ll base rt offset s).trans (withLoad_storage _ hok hs),
      WritesReg.setReg_advance { s with llbit := true } rt _⟩

/-! ## Merging the bytes of the aligned word into a register (R226, R227) -/

theorem getElem_byteLane (w : Word) (j : Nat) {i : Nat} (hi : i < 8) : (byteLane w j)[i] = w.getLsbD (8 * j + i) :=
  BitVec.getElem_extractLsb' hi

/-- A word is given by its byte lanes. -/
theorem eq_append_of_byteLane {w : Word} {byte : Nat → Byte} (h : ∀ j, j < 4 → byteLane w j = byte j) :
    w = byte 3 ++ byte 2 ++ byte 1 ++ byte 0 := by
  rw [← h 3 (by decide), ← h 2 (by decide), ← h 1 (by decide), ← h 0 (by decide)]
  exact (wordOfBytes_byteLanes w).symm

/-- The mask of the `k` lowest bits. -/
theorem getLsbD_one_shiftLeft_sub_one {k : Nat} (hk : k < 32) (i : Nat) :
    ((1#32 <<< k) - 1#32).getLsbD i = decide (i < k) := by
  have hpow : 2 ^ k < 2 ^ 32 := Nat.pow_lt_pow_right (by decide) hk
  have hval : ((1#32 <<< k) - 1#32).toNat = 2 ^ k - 1 := by
    have hone : (1#32 <<< k).toNat = 2 ^ k := by
      rw [BitVec.toNat_shiftLeft, BitVec.toNat_ofNat, Nat.shiftLeft_eq, Nat.one_mod, one_mul, Nat.mod_eq_of_lt hpow]
    have hle : 1#32 ≤ 1#32 <<< k := by
      rw [BitVec.le_def, hone]
      exact Nat.one_le_two_pow
    rw [BitVec.toNat_sub_of_le hle, hone]
    rfl
  rw [BitVec.getLsbD, hval, Nat.testBit_two_pow_sub_one]

/-- LWL keeps the lanes below `3 - b` and fills the others from lane 0 of `w` on (R226). -/
theorem byteLane_mergeLeft {b j : Nat} (w old : Word) (hb : b < 4) (hj : j < 4) :
    byteLane (mergeLeft b w old) j = if 3 ≤ j + b then byteLane w (j + b - 3) else byteLane old j := by
  ext i hi
  have hbit : 8 * j + i < 32 := by omega
  simp only [getElem_byteLane, mergeLeft, BitVec.getLsbD_or, BitVec.getLsbD_and, BitVec.getLsbD_shiftLeft,
    getLsbD_one_shiftLeft_sub_one (show 8 * (3 - b) < 32 by omega), hbit, decide_true, Bool.true_and]
  split
  · next h =>
    have hfilled : ¬8 * j + i < 8 * (3 - b) := by omega
    have hsource : 8 * j + i - 8 * (3 - b) = 8 * (j + b - 3) + i := by omega
    simp [getElem_byteLane, hfilled, hsource]
  · next h =>
    have hkept : 8 * j + i < 8 * (3 - b) := by omega
    simp [getElem_byteLane, hkept]

/-- LWR fills the lanes up to `3 - b` from lane `b` of `w` on and keeps the others (R227). -/
theorem byteLane_mergeRight {b j : Nat} (w old : Word) (hj : j < 4) :
    byteLane (mergeRight b w old) j = if j + b ≤ 3 then byteLane w (j + b) else byteLane old j := by
  have hones : 0xFFFFFFFF#32 = BitVec.allOnes 32 := by decide
  ext i hi
  have hbit : 8 * j + i < 32 := by omega
  simp only [getElem_byteLane, mergeRight, hones, BitVec.getLsbD_or, BitVec.getLsbD_and, BitVec.getLsbD_not,
    BitVec.getLsbD_ushiftRight, BitVec.getLsbD_allOnes, hbit, decide_true, Bool.true_and]
  split
  · next h =>
    have hfilled : 8 * b + (8 * j + i) < 32 := by omega
    have hsource : 8 * b + (8 * j + i) = 8 * (j + b) + i := by omega
    simp [getElem_byteLane, hfilled, ← hsource]
  · next h =>
    have hkept : ¬8 * b + (8 * j + i) < 32 := by omega
    have hpast : w.getLsbD (8 * b + (8 * j + i)) = false := BitVec.getLsbD_of_ge _ _ (by omega)
    simp [getElem_byteLane, hkept, hpast]

/-- The lanes of LWL, read from memory. -/
theorem byteLane_mergeLeft_readWord (m : List Host.Cell) (pa old : Word) (j : Nat) (hj : j < 4) :
    byteLane (mergeLeft (laneOf pa) (readWord m (wordAddr pa)) old) j =
      if 3 ≤ j + pa.toNat % 4 then readByte m (pa.toNat / 4 * 4 + (j + pa.toNat % 4 - 3))
      else old.extractLsb' (8 * j) 8 := by
  have hlt := laneOf_lt pa
  rw [byteLane_mergeLeft _ _ hlt hj, byteLane_readWord _ _ _ (by omega)]
  rfl

/-- The lanes of LWR, read from memory. -/
theorem byteLane_mergeRight_readWord (m : List Host.Cell) (pa old : Word) (j : Nat) (hj : j < 4) :
    byteLane (mergeRight (laneOf pa) (readWord m (wordAddr pa)) old) j =
      if j + pa.toNat % 4 ≤ 3 then readByte m (pa.toNat + j) else old.extractLsb' (8 * j) 8 := by
  rw [byteLane_mergeRight _ _ hj]
  refine if_ctx_congr Iff.rfl (fun h : j + laneOf pa ≤ 3 => ?_) (fun _ => rfl)
  rw [byteLane_readWord _ _ _ (by omega), ← wordAddr_add_laneOf pa]
  congr 1
  omega

/-- Settles O22: the merged register, lane by lane. -/
theorem partialLoadsMerge : Obligations.PartialLoadsMerge := by
  unfold Obligations.PartialLoadsMerge
  intro base rt offset s
  refine ⟨decode_lwl base rt offset, decode_lwr base rt offset, .of_withLoad (exec_lwl base rt offset s) ?lwl,
    .of_withLoad (exec_lwr base rt offset s) ?lwr⟩
  case lwl =>
    intro pa hok
    rw [hok.laneOf_eq]
    have hmerged := eq_append_of_byteLane (byteLane_mergeLeft_readWord s.mem pa (s.reg rt))
    exact hmerged
  case lwr =>
    intro pa hok
    rw [hok.laneOf_eq]
    have hmerged := eq_append_of_byteLane (byteLane_mergeRight_readWord s.mem pa (s.reg rt))
    exact hmerged

/-! ## The lanes a store writes (R228 to R232) -/

/-- The store `w` writes the lanes from `b` on, `n` of them, with the bytes `v 0` to `v (n - 1)`. -/
structure LaneStore.Writes (w : LaneStore) (b n : Nat) (v : Nat → Byte) : Prop where
  fits : b + n ≤ 4
  enabled : ∀ k, k < 4 → w.enable.getLsbD k = decide (b ≤ k ∧ k < b + n)
  bytes : ∀ k, k < n → byteLane w.data (b + k) = v k

/-- Moving a word `b` lanes up. -/
theorem byteLane_shiftLeft {b k : Nat} (v : Word) (h : b + k < 4) : byteLane (v <<< (8 * b)) (b + k) = byteLane v k := by
  ext i hi
  have hbit : 8 * (b + k) + i < 32 := by omega
  have habove : ¬8 * (b + k) + i < 8 * b := by omega
  have hsource : 8 * (b + k) + i - 8 * b = 8 * k + i := by omega
  rw [getElem_byteLane _ _ hi, getElem_byteLane _ _ hi, BitVec.getLsbD_shiftLeft, hsource]
  simp [hbit, habove]

/-- Moving a word `b` lanes down. -/
theorem byteLane_ushiftRight (v : Word) (b k : Nat) : byteLane (v >>> (8 * b)) k = byteLane v (b + k) := by
  ext i hi
  have hsource : 8 * b + (8 * k + i) = 8 * (b + k) + i := by omega
  simp [getElem_byteLane, hsource]

theorem laneByte_writes {b : Nat} (v : Word) (hb : b < 4) : (laneByte b v).Writes b 1 (byteLane v) where
  fits := by omega
  enabled := (by decide : ∀ b < 4, ∀ k < 4, (0x1#4 <<< b).getLsbD k = decide (b ≤ k ∧ k < b + 1)) b hb
  bytes k hk := byteLane_shiftLeft v (by omega)

theorem laneHalf_writes {b : Nat} (v : Word) (hb : b ≤ 2) : (laneHalf b v).Writes b 2 (byteLane v) where
  fits := by omega
  enabled := (by decide : ∀ b ≤ 2, ∀ k < 4, (0x3#4 <<< b).getLsbD k = decide (b ≤ k ∧ k < b + 2)) b hb
  bytes k hk := byteLane_shiftLeft v (by omega)

theorem laneWord_writes (v : Word) : (laneWord v).Writes 0 4 (byteLane v) where
  fits := by decide
  enabled := (by decide : ∀ k < 4, (0xF#4).getLsbD k = decide (0 ≤ k ∧ k < 0 + 4))
  bytes k _ := by rw [Nat.zero_add]; rfl

theorem laneLeft_writes {b : Nat} (v : Word) (hb : b < 4) :
    (laneLeft b v).Writes 0 (b + 1) fun k => byteLane v (3 - b + k) where
  fits := by omega
  enabled := (by decide : ∀ b < 4, ∀ k < 4, (0xF#4 >>> (3 - b)).getLsbD k = decide (0 ≤ k ∧ k < 0 + (b + 1))) b hb
  bytes k _ := by
    rw [Nat.zero_add]
    exact byteLane_ushiftRight v (3 - b) k

theorem laneRight_writes {b : Nat} (v : Word) (hb : b < 4) : (laneRight b v).Writes b (4 - b) (byteLane v) where
  fits := by omega
  enabled := (by decide : ∀ b < 4, ∀ k < 4, (0xF#4 <<< b).getLsbD k = decide (b ≤ k ∧ k < b + (4 - b))) b hb
  bytes k hk := byteLane_shiftLeft v (by omega)

/-! ## Stores -/

/-- The bytes of memory after a store to RAM: the written lanes, and no other. -/
theorem BytesStored.storeRam {w : LaneStore} {b n : Nat} {v : Nat → Byte} (h : w.Writes b n v) (s : State) (wa : Nat) :
    BytesStored (wa + b) n v s (s.advance.storeRam wa w) where
  stored k hk := by
    have hfits := h.fits
    have hplace : wa + b + k - wa = b + k := by omega
    have henabled : w.enable.getLsbD (b + k) = true := by
      rw [h.enabled _ (by omega)]
      exact decide_eq_true ⟨by omega, by omega⟩
    rw [State.storeRam_mem, readByte_writeLanes, hplace, if_pos ⟨by omega, by omega, henabled⟩]
    exact h.bytes k hk
  others a ha := by
    rw [State.storeRam_mem, readByte_writeLanes, if_neg, State.advance_mem]
    rintro ⟨hlo, hhi, henabled⟩
    rw [h.enabled _ (by omega), decide_eq_true_iff] at henabled
    omega

/-- A store to RAM that completes leaves everything but memory and the marks on stored words unchanged. -/
theorem StoreFrame.storeRam_advance (s : State) (wa : Nat) (w : LaneStore) : StoreFrame s (s.advance.storeRam wa w) where
  waiting := by simp
  cp0 := by simp
  hi := by simp
  lo := by simp
  devRegs := by simp
  intReq := by simp
  schedule := by simp
  cfg := by simp
  moves := ⟨rfl, rfl, by simp, rfl, rfl⟩

/-- A store whose lanes, from `b pa` on, are the bytes `v` stores those bytes. -/
theorem StoreRule.of_withStore {i : Instr} {n : Nat} {va : Word} {w : LaneStore} {start count : Word → Nat}
    {v : Nat → Byte} {s : State} (h : exec i s = withStore n va w s State.advance) {b : Word → Nat}
    (hstart : ∀ pa, start pa = wordAddr pa + b pa) (hlanes : ∀ pa, AccessOk n va s pa → w.Writes (b pa) (count pa) v) :
    StoreRule i n va start count v s where
  stores pa hok ht := by
    refine ⟨_, h.trans (withStore_ram w State.advance hok ht), ?_, State.regOf_congr (by simp), by simp, by simp,
      .storeRam_advance s _ w⟩
    rw [hstart]
    exact .storeRam (hlanes pa hok) s _
  fails := .of_withStore h

/-- The same for the stores that start at their address. -/
theorem StoreRule.of_withStore_at {i : Instr} {n : Nat} {va : Word} {w : LaneStore} {count : Word → Nat}
    {v : Nat → Byte} {s : State} (h : exec i s = withStore n va w s State.advance)
    (hlanes : ∀ pa, AccessOk n va s pa → w.Writes (laneOf pa) (count pa) v) : StoreRule i n va BitVec.toNat count v s :=
  .of_withStore h (fun pa => (wordAddr_add_laneOf pa).symm) hlanes

/-- Settles O24: the lanes of each store are those at the place of its address. -/
theorem storesWriteMemory : Obligations.StoresWriteMemory := by
  unfold Obligations.StoresWriteMemory
  intro base rt offset s
  refine ⟨decode_sb base rt offset, .of_withStore_at (exec_sb base rt offset s) ?sb, decode_sh base rt offset,
    .of_withStore_at (exec_sh base rt offset s) ?sh, decode_sw base rt offset,
    .of_withStore_at (exec_sw base rt offset s) ?sw⟩
  case sb =>
    intro pa hok
    rw [hok.laneOf_eq]
    exact laneByte_writes _ (laneOf_lt pa)
  case sh =>
    intro pa hok
    have hlt := laneOf_lt pa
    have heven := hok.laneOf_even
    rw [hok.laneOf_eq]
    exact laneHalf_writes _ (by omega)
  case sw =>
    intro pa hok
    rw [hok.laneOf_zero]
    exact laneWord_writes _

/-- Settles O25: SWL writes the lanes up to the place of its address, SWR those from it on. -/
theorem partialStoresWriteTheirBytes : Obligations.PartialStoresWriteTheirBytes := by
  unfold Obligations.PartialStoresWriteTheirBytes
  intro base rt offset s
  refine ⟨decode_swl base rt offset, decode_swr base rt offset,
    .of_withStore (b := fun _ => 0) (exec_swl base rt offset s) (fun _ => rfl) ?swl,
    .of_withStore_at (exec_swr base rt offset s) ?swr⟩
  case swl =>
    intro pa hok
    have hplace : pa.toNat % 4 = laneOf (s.effectiveAddress base offset) := hok.laneOf_eq.symm
    rw [hplace]
    exact laneLeft_writes _ (laneOf_lt _)
  case swr =>
    intro pa hok
    rw [hok.laneOf_eq]
    exact laneRight_writes _ (laneOf_lt pa)

end Sys2Proof.Machine
end

section
/-!
How the words of the computational instructions decode (41_computational.md, 30_encoding.md R189 to R193): the
must-be-zero fields are 0, and every other field is the operand.
-/
namespace Sys2Proof.Machine

open Sys2Proof

section Decoding
variable (rs rt rd : Reg) (sa : BitVec 5) (imm : BitVec 16)

/-! ### Add, subtract, compare, load upper (R262 to R272) -/

theorem decode_add : decode (encR 0x00#6 rs rt rd 0#5 0x20#6) = .instr (.add rs rt rd) := by
  simp [decode, decodeSpecial, whenZero]
theorem decode_addu : decode (encR 0x00#6 rs rt rd 0#5 0x21#6) = .instr (.addu rs rt rd) := by
  simp [decode, decodeSpecial, whenZero]
theorem decode_sub : decode (encR 0x00#6 rs rt rd 0#5 0x22#6) = .instr (.sub rs rt rd) := by
  simp [decode, decodeSpecial, whenZero]
theorem decode_subu : decode (encR 0x00#6 rs rt rd 0#5 0x23#6) = .instr (.subu rs rt rd) := by
  simp [decode, decodeSpecial, whenZero]
theorem decode_slt : decode (encR 0x00#6 rs rt rd 0#5 0x2A#6) = .instr (.slt rs rt rd) := by
  simp [decode, decodeSpecial, whenZero]
theorem decode_sltu : decode (encR 0x00#6 rs rt rd 0#5 0x2B#6) = .instr (.sltu rs rt rd) := by
  simp [decode, decodeSpecial, whenZero]
theorem decode_addi : decode (encI 0x08#6 rs rt imm) = .instr (.addi rs rt imm) := by simp [decode]
theorem decode_addiu : decode (encI 0x09#6 rs rt imm) = .instr (.addiu rs rt imm) := by simp [decode]
theorem decode_slti : decode (encI 0x0A#6 rs rt imm) = .instr (.slti rs rt imm) := by simp [decode]
theorem decode_sltiu : decode (encI 0x0B#6 rs rt imm) = .instr (.sltiu rs rt imm) := by simp [decode]
theorem decode_lui : decode (encI 0x0F#6 0#5 rt imm) = .instr (.lui rt imm) := by simp [decode, whenZero]

/-! ### Logical instructions (R273 to R279) -/

theorem decode_and : decode (encR 0x00#6 rs rt rd 0#5 0x24#6) = .instr (.and_ rs rt rd) := by
  simp [decode, decodeSpecial, whenZero]
theorem decode_or : decode (encR 0x00#6 rs rt rd 0#5 0x25#6) = .instr (.or_ rs rt rd) := by
  simp [decode, decodeSpecial, whenZero]
theorem decode_xor : decode (encR 0x00#6 rs rt rd 0#5 0x26#6) = .instr (.xor_ rs rt rd) := by
  simp [decode, decodeSpecial, whenZero]
theorem decode_nor : decode (encR 0x00#6 rs rt rd 0#5 0x27#6) = .instr (.nor_ rs rt rd) := by
  simp [decode, decodeSpecial, whenZero]
theorem decode_andi : decode (encI 0x0C#6 rs rt imm) = .instr (.andi rs rt imm) := by simp [decode]
theorem decode_ori : decode (encI 0x0D#6 rs rt imm) = .instr (.ori rs rt imm) := by simp [decode]
theorem decode_xori : decode (encI 0x0E#6 rs rt imm) = .instr (.xori rs rt imm) := by simp [decode]

/-! ### Shifts and rotates (R280 to R287) -/

/-- The three words that are NOP, SSNOP and EHB are not well-formed as SLL (30_encoding.md R198). -/
theorem decode_sll (h : (Instr.sll rt rd sa).wellFormed = true) :
    decode (encR 0x00#6 0#5 rt rd sa 0x00#6) = .instr (.sll rt rd sa) := by
  have hother (k : BitVec 5) (hk : k = 0#5 ∨ k = 1#5 ∨ k = 3#5) : ¬(rt = 0#5 ∧ rd = 0#5 ∧ sa = k) := by
    rintro ⟨rfl, rfl, rfl⟩
    rcases hk with rfl | rfl | rfl <;> exact absurd h (by decide)
  simp [decode, decodeSpecial, decodeSll, hother]
theorem decode_srl : decode (encR 0x00#6 0#5 rt rd sa 0x02#6) = .instr (.srl rt rd sa) := by
  simp [decode, decodeSpecial]
theorem decode_sra : decode (encR 0x00#6 0#5 rt rd sa 0x03#6) = .instr (.sra rt rd sa) := by
  simp [decode, decodeSpecial, whenZero]
theorem decode_rotr : decode (encR 0x00#6 1#5 rt rd sa 0x02#6) = .instr (.rotr rt rd sa) := by
  simp [decode, decodeSpecial]
theorem decode_sllv : decode (encR 0x00#6 rs rt rd 0#5 0x04#6) = .instr (.sllv rs rt rd) := by
  simp [decode, decodeSpecial, whenZero]
theorem decode_srlv : decode (encR 0x00#6 rs rt rd 0#5 0x06#6) = .instr (.srlv rs rt rd) := by
  simp [decode, decodeSpecial]
theorem decode_srav : decode (encR 0x00#6 rs rt rd 0#5 0x07#6) = .instr (.srav rs rt rd) := by
  simp [decode, decodeSpecial, whenZero]
theorem decode_rotrv : decode (encR 0x00#6 rs rt rd 1#5 0x06#6) = .instr (.rotrv rs rt rd) := by
  simp [decode, decodeSpecial]

/-! ### Counts, bit fields and extensions (R288 to R294) -/

theorem decode_clz : decode (encR 0x1C#6 rs rt rd 0#5 0x20#6) = .instr (.clz rs rt rd) := by
  simp [decode, decodeSpecial2, whenZero]
theorem decode_clo : decode (encR 0x1C#6 rs rt rd 0#5 0x21#6) = .instr (.clo rs rt rd) := by
  simp [decode, decodeSpecial2, whenZero]
theorem decode_ext : decode (encR 0x1F#6 rs rt rd sa 0x00#6) = .instr (.ext rs rt rd sa) := by
  simp [decode, decodeSpecial3]
theorem decode_ins : decode (encR 0x1F#6 rs rt rd sa 0x04#6) = .instr (.ins rs rt rd sa) := by
  simp [decode, decodeSpecial3]
theorem decode_seb : decode (encR 0x1F#6 0#5 rt rd 0x10#5 0x20#6) = .instr (.seb rt rd) := by
  simp [decode, decodeSpecial3, decodeBshfl, whenZero]
theorem decode_seh : decode (encR 0x1F#6 0#5 rt rd 0x18#5 0x20#6) = .instr (.seh rt rd) := by
  simp [decode, decodeSpecial3, decodeBshfl, whenZero]
theorem decode_wsbh : decode (encR 0x1F#6 0#5 rt rd 0x02#5 0x20#6) = .instr (.wsbh rt rd) := by
  simp [decode, decodeSpecial3, decodeBshfl, whenZero]

/-! ### Multiplication, division, HI and LO (R295 to R307) -/

theorem decode_mult : decode (encR 0x00#6 rs rt 0#5 0#5 0x18#6) = .instr (.mult rs rt) := by
  simp [decode, decodeSpecial, whenZero]
theorem decode_multu : decode (encR 0x00#6 rs rt 0#5 0#5 0x19#6) = .instr (.multu rs rt) := by
  simp [decode, decodeSpecial, whenZero]
theorem decode_mul : decode (encR 0x1C#6 rs rt rd 0#5 0x02#6) = .instr (.mul rs rt rd) := by
  simp [decode, decodeSpecial2, whenZero]
theorem decode_madd : decode (encR 0x1C#6 rs rt 0#5 0#5 0x00#6) = .instr (.madd rs rt) := by
  simp [decode, decodeSpecial2, whenZero]
theorem decode_maddu : decode (encR 0x1C#6 rs rt 0#5 0#5 0x01#6) = .instr (.maddu rs rt) := by
  simp [decode, decodeSpecial2, whenZero]
theorem decode_msub : decode (encR 0x1C#6 rs rt 0#5 0#5 0x04#6) = .instr (.msub rs rt) := by
  simp [decode, decodeSpecial2, whenZero]
theorem decode_msubu : decode (encR 0x1C#6 rs rt 0#5 0#5 0x05#6) = .instr (.msubu rs rt) := by
  simp [decode, decodeSpecial2, whenZero]
theorem decode_div : decode (encR 0x00#6 rs rt 0#5 0#5 0x1A#6) = .instr (.div rs rt) := by
  simp [decode, decodeSpecial, whenZero]
theorem decode_divu : decode (encR 0x00#6 rs rt 0#5 0#5 0x1B#6) = .instr (.divu rs rt) := by
  simp [decode, decodeSpecial, whenZero]
theorem decode_mfhi : decode (encR 0x00#6 0#5 0#5 rd 0#5 0x10#6) = .instr (.mfhi rd) := by
  simp [decode, decodeSpecial, whenZero]
theorem decode_mflo : decode (encR 0x00#6 0#5 0#5 rd 0#5 0x12#6) = .instr (.mflo rd) := by
  simp [decode, decodeSpecial, whenZero]
theorem decode_mthi : decode (encR 0x00#6 rs 0#5 0#5 0#5 0x11#6) = .instr (.mthi rs) := by
  simp [decode, decodeSpecial, whenZero]
theorem decode_mtlo : decode (encR 0x00#6 rs 0#5 0#5 0#5 0x13#6) = .instr (.mtlo rs) := by
  simp [decode, decodeSpecial, whenZero]

end Decoding

end Sys2Proof.Machine
end

section
/-!
Add, subtract, compare and load upper (41_computational.md R262 to R272): the model's words as integers, the overflow
conditions as ranges, and O31 to O33 assembled from them.
-/
namespace Sys2Proof.Machine

open Sys2Proof

/-! ## Completing with a value given another way -/

/-- An instruction whose meaning writes `v` writes what `v` is equal to. In the uses below `h` is the instruction's arm of
`exec`, by `rfl`. -/
theorem Completes.of_completeReg_eq {i : Instr} {s : State} {r : Reg} {v w : Word} (hv : v = w)
    (h : exec i s = completeReg s r v) : Completes i s (WritesReg r w s) :=
  hv ▸ .of_completeReg h

/-! ## Words as integers (00_scope.md R13) -/

/-- A word is known by its signed value. -/
theorem eq_ofInt_of_toInt {n : Nat} {v : BitVec n} {k : Int} (h : v.toInt = k) : v = BitVec.ofInt n k := by
  rw [← h, BitVec.ofInt_toInt]

theorem add_eq_ofInt {n : Nat} (a b : BitVec n) : a + b = BitVec.ofInt n (a.toInt + b.toInt) := by
  rw [BitVec.ofInt_add, BitVec.ofInt_toInt, BitVec.ofInt_toInt]

theorem sub_eq_ofInt {n : Nat} (a b : BitVec n) : a - b = BitVec.ofInt n (a.toInt - b.toInt) :=
  BitVec.eq_of_toInt_eq (by rw [BitVec.toInt_sub, BitVec.toInt_ofInt])

theorem add_eq_ofNat {n : Nat} (a b : BitVec n) : a + b = BitVec.ofNat n (a.toNat + b.toNat) := by
  rw [BitVec.ofNat_add, BitVec.ofNat_toNat, BitVec.ofNat_toNat, BitVec.setWidth_eq, BitVec.setWidth_eq]

theorem mul_eq_ofNat {n : Nat} (a b : BitVec n) : a * b = BitVec.ofNat n (a.toNat * b.toNat) := by
  rw [BitVec.ofNat_mul, BitVec.ofNat_toNat, BitVec.ofNat_toNat, BitVec.setWidth_eq, BitVec.setWidth_eq]

/-- Sign extension keeps the value. -/
@[simp] theorem toInt_sext16 (imm : BitVec 16) : (sext16 imm).toInt = imm.toInt :=
  BitVec.toInt_signExtend_of_le (by decide)

/-! ## Signed overflow (41_computational.md R261) -/

/-- The two top bits of a 33-bit number differ exactly when it does not fit in 32 bits. -/
theorem topBits_ne_iff (t : BitVec 33) :
    (t.getLsbD 32 != t.getLsbD 31) = true ↔ ¬(-(2 : Int) ^ 31 ≤ t.toInt ∧ t.toInt < (2 : Int) ^ 31) := by
  have hlt := t.isLt
  rw [BitVec.toInt_eq_toNat_cond, BitVec.getLsbD, BitVec.getLsbD, Nat.testBit_eq_decide_div_mod_eq,
    Nat.testBit_eq_decide_div_mod_eq, bne_iff_ne, ne_eq, decide_eq_decide]
  split <;> omega

/-- In 33 bits the sum of two words is exact. -/
theorem toInt_signExtend_add (a b : Word) : (a.signExtend 33 + b.signExtend 33).toInt = a.toInt + b.toInt := by
  have ha := a.le_toInt
  have hb := b.le_toInt
  have ha' := a.toInt_lt
  have hb' := b.toInt_lt
  rw [BitVec.toInt_add, BitVec.toInt_signExtend_of_le (by decide), BitVec.toInt_signExtend_of_le (by decide)]
  exact Int.bmod_eq_of_le (by omega) (by omega)

/-- In 33 bits the difference of two words is exact. -/
theorem toInt_signExtend_sub (a b : Word) : (a.signExtend 33 - b.signExtend 33).toInt = a.toInt - b.toInt := by
  have ha := a.le_toInt
  have hb := b.le_toInt
  have ha' := a.toInt_lt
  have hb' := b.toInt_lt
  rw [BitVec.toInt_sub, BitVec.toInt_signExtend_of_le (by decide), BitVec.toInt_signExtend_of_le (by decide)]
  exact Int.bmod_eq_of_le (by omega) (by omega)

theorem addOverflows_iff (a b : Word) : addOverflows a b = true ↔
    ¬(-(2 : Int) ^ 31 ≤ a.toInt + b.toInt ∧ a.toInt + b.toInt < (2 : Int) ^ 31) := by
  rw [← toInt_signExtend_add]
  exact topBits_ne_iff _

theorem subOverflows_iff (a b : Word) : subOverflows a b = true ↔
    ¬(-(2 : Int) ^ 31 ≤ a.toInt - b.toInt ∧ a.toInt - b.toInt < (2 : Int) ^ 31) := by
  rw [← toInt_signExtend_sub]
  exact topBits_ne_iff _

/-- An instruction that takes Ov where `overflow` holds and writes `v` elsewhere, `overflow` being that the exact
result `n` is out of range. -/
theorem completes_or_overflows {i : Instr} {s : State} {r : Reg} {overflow : Bool} {v : Word} {n : Int}
    (h : exec i s = if overflow then takeException .ov s else completeReg s r v)
    (hoverflow : overflow = true ↔ ¬(-(2 : Int) ^ 31 ≤ n ∧ n < (2 : Int) ^ 31)) (hv : v = BitVec.ofInt 32 n) :
    if -(2 : Int) ^ 31 ≤ n ∧ n < (2 : Int) ^ 31 then Completes i s (WritesReg r (BitVec.ofInt 32 n) s)
    else Takes (exec i s) .ov s := by
  split
  · next hfits => exact .of_completeReg_eq hv (h.trans (if_neg fun ho => hoverflow.mp ho hfits))
  · next hout =>
    rw [h, if_pos (hoverflow.mpr hout)]
    exact takes_takeException .ov s

/-- Settles O31: the 33-bit test of R261 is the range of the exact result. -/
theorem trappingArithmetic : Obligations.TrappingArithmetic := by
  unfold Obligations.TrappingArithmetic
  intro rs rt rd imm s
  refine ⟨decode_add rs rt rd, decode_sub rs rt rd, decode_addi rs rt imm,
    completes_or_overflows rfl (addOverflows_iff _ _) (add_eq_ofInt _ _),
    completes_or_overflows rfl (subOverflows_iff _ _) (sub_eq_ofInt _ _), ?addi⟩
  case addi =>
    rw [← toInt_sext16]
    exact completes_or_overflows rfl (addOverflows_iff _ _) (add_eq_ofInt _ _)

/-- Settles O32: machine addition and subtraction are those of the integers modulo 2^32. -/
theorem moduloArithmetic : Obligations.ModuloArithmetic := by
  unfold Obligations.ModuloArithmetic
  intro rs rt rd imm s
  refine ⟨decode_addu rs rt rd, decode_subu rs rt rd, decode_addiu rs rt imm,
    .of_completeReg_eq (add_eq_ofNat _ _) rfl, .of_completeReg_eq (sub_eq_ofInt _ _) rfl, ?addiu⟩
  case addiu =>
    rw [← toInt_sext16]
    exact .of_completeReg_eq (add_eq_ofInt _ _) rfl

/-! ## Comparisons and load upper -/

theorem flagWord_lessSigned (a b : Word) :
    flagWord (lessSigned a b) = if a.toInt < b.toInt then 1#32 else 0#32 := by
  simp only [flagWord, lessSigned, BitVec.slt_iff_toInt_lt]

theorem flagWord_lessUnsigned (a b : Word) :
    flagWord (lessUnsigned a b) = if a.toNat < b.toNat then 1#32 else 0#32 := by
  simp only [flagWord, lessUnsigned, BitVec.ult_iff_lt, BitVec.lt_def]

/-- Sixteen zeros below the immediate multiply it by 2^16. -/
theorem append_zero_eq_ofNat (imm : BitVec 16) : imm ++ 0x0000#16 = BitVec.ofNat 32 (imm.toNat * 65536) := by
  have hlt := imm.isLt
  apply BitVec.eq_of_toNat_eq
  rw [BitVec.toNat_append, BitVec.toNat_ofNat, BitVec.toNat_ofNat, Nat.shiftLeft_eq]
  simp only [Nat.zero_mod, Nat.or_zero]
  omega

/-- Settles O33: each comparison is that of the numbers its operands stand for. -/
theorem comparisonsAndUpperLoad : Obligations.ComparisonsAndUpperLoad := by
  unfold Obligations.ComparisonsAndUpperLoad
  intro rs rt rd imm s
  refine ⟨decode_slt rs rt rd, decode_sltu rs rt rd, decode_slti rs rt imm, decode_sltiu rs rt imm, decode_lui rt imm,
    .of_completeReg_eq (flagWord_lessSigned _ _) rfl, .of_completeReg_eq (flagWord_lessUnsigned _ _) rfl, ?slti,
    ?sltiu, .of_completeReg_eq (append_zero_eq_ofNat imm) rfl⟩
  case slti =>
    rw [← toInt_sext16]
    exact .of_completeReg_eq (flagWord_lessSigned _ _) rfl
  case sltiu =>
    rw [← sext16_eq_ofInt]
    exact .of_completeReg_eq (flagWord_lessUnsigned _ _) rfl

end Sys2Proof.Machine
end

section
/-!
Logical instructions, shifts, rotates, counts, bit fields and extensions (41_computational.md R273 to R294): the bits or
the number of each result, and O34 to O37 assembled from them.
-/
namespace Sys2Proof.Machine

open Sys2Proof

/-! ## Logical instructions -/

/-- The zero-extended immediate has the bits of the immediate in its low half and zeros above. -/
theorem getLsbD_zext16 (imm : BitVec 16) {k : Nat} (hk : k < 32) :
    (zext16 imm).getLsbD k = (decide (k < 16) && imm.getLsbD k) := by
  have habove : ¬k < 16 → imm.getLsbD k = false := fun h => BitVec.getLsbD_of_ge _ _ (by omega)
  by_cases h : k < 16 <;> simp [zext16, BitVec.zeroExtend, hk, h, habove]

/-- Settles O34: the operations on words are those on their bits. -/
theorem logicalInstructions : Obligations.LogicalInstructions := by
  unfold Obligations.LogicalInstructions
  intro rs rt rd imm s
  refine ⟨decode_and rs rt rd, decode_or rs rt rd, decode_xor rs rt rd, decode_nor rs rt rd, decode_andi rs rt imm,
    decode_ori rs rt imm, decode_xori rs rt imm,
    ⟨_, fun k _ => BitVec.getLsbD_and, .of_completeReg rfl⟩,
    ⟨_, fun k _ => BitVec.getLsbD_or, .of_completeReg rfl⟩,
    ⟨_, fun k _ => BitVec.getLsbD_xor, .of_completeReg rfl⟩,
    ⟨_, fun k hk => ?nor, .of_completeReg rfl⟩,
    ⟨_, fun k hk => ?andi, .of_completeReg rfl⟩,
    ⟨_, fun k hk => ?ori, .of_completeReg rfl⟩,
    ⟨_, fun k hk => ?xori, .of_completeReg rfl⟩⟩
  case nor => simp [hk]
  case andi => rw [BitVec.getLsbD_and, getLsbD_zext16 imm hk]
  case ori => rw [BitVec.getLsbD_or, getLsbD_zext16 imm hk]
  case xori => rw [BitVec.getLsbD_xor, getLsbD_zext16 imm hk]

/-! ## Shifts and rotates -/

theorem shiftAmount_eq (v : Word) : shiftAmount v = v.toNat % 32 := by
  rw [shiftAmount, BitVec.extractLsb'_toNat, Nat.shiftRight_zero]

theorem shiftLeft_eq_ofNat (v : Word) (n : Nat) : v <<< n = BitVec.ofNat 32 (v.toNat * 2 ^ n) :=
  BitVec.eq_of_toNat_eq (by rw [BitVec.toNat_shiftLeft, BitVec.toNat_ofNat, Nat.shiftLeft_eq])

theorem ushiftRight_eq_ofNat (v : Word) (n : Nat) : v >>> n = BitVec.ofNat 32 (v.toNat / 2 ^ n) := by
  rw [← Nat.shiftRight_eq_div_pow, ← BitVec.toNat_ushiftRight, BitVec.ofNat_toNat, BitVec.setWidth_eq]

theorem sshiftRight_eq_ofInt (v : Word) (n : Nat) : v.sshiftRight n = BitVec.ofInt 32 (v.toInt / 2 ^ n) := by
  rw [BitVec.sshiftRight_eq, Int.shiftRight_eq_div_pow, Nat.cast_pow, Nat.cast_ofNat]

/-- Bit `k` of a word rotated right by `n` places is the bit `n` places up, cyclically (R286). -/
theorem getLsbD_rotateRightBy (v : Word) {n k : Nat} (hn : n < 32) (hk : k < 32) :
    (rotateRightBy v n).getLsbD k = v.getLsbD ((k + n) % 32) := by
  rw [rotateRightBy, BitVec.getLsbD_or, BitVec.getLsbD_ushiftRight, BitVec.getLsbD_shiftLeft]
  by_cases hwrap : k + n < 32
  · have hlow : k < 32 - n := by omega
    simp [hk, hlow, Nat.mod_eq_of_lt hwrap, Nat.add_comm n k]
  · have hhigh : ¬k < 32 - n := by omega
    have hpast : v.getLsbD (n + k) = false := BitVec.getLsbD_of_ge _ _ (by omega)
    have hsource : k - (32 - n) = (k + n) % 32 := by omega
    simp [hk, hhigh, hpast, hsource]

/-- Settles O35: shifting a word is multiplying or dividing it, and rotating it moves its bits cyclically. -/
theorem shiftsAndRotates : Obligations.ShiftsAndRotates := by
  unfold Obligations.ShiftsAndRotates
  intro rs rt rd sa s
  rw [← shiftAmount_eq]
  have hamount : shiftAmount (s.reg rs) < 32 := by
    rw [shiftAmount_eq]
    exact Nat.mod_lt _ (by decide)
  exact ⟨decode_sll rt rd sa, decode_srl rt rd sa, decode_sra rt rd sa, decode_rotr rt rd sa, decode_sllv rs rt rd,
    decode_srlv rs rt rd, decode_srav rs rt rd, decode_rotrv rs rt rd,
    .of_completeReg_eq (shiftLeft_eq_ofNat _ _) rfl,
    .of_completeReg_eq (ushiftRight_eq_ofNat _ _) rfl,
    .of_completeReg_eq (sshiftRight_eq_ofInt _ _) rfl,
    ⟨_, fun _ hk => getLsbD_rotateRightBy _ sa.isLt hk, .of_completeReg rfl⟩,
    .of_completeReg_eq (shiftLeft_eq_ofNat _ _) rfl,
    .of_completeReg_eq (ushiftRight_eq_ofNat _ _) rfl,
    .of_completeReg_eq (sshiftRight_eq_ofInt _ _) rfl,
    ⟨_, fun _ hk => getLsbD_rotateRightBy _ hamount hk, .of_completeReg rfl⟩⟩

/-! ## Counts -/

/-- `n` is the number of bits of `v`, from bit 31 downward, that are `b` before one that is not. -/
structure LeadingBits (b : Bool) (v : Word) (n : Nat) : Prop where
  le : n ≤ 32
  leading : ∀ k, 32 - n ≤ k → k < 32 → v.getLsbD k = b
  next : n < 32 → v.getLsbD (31 - n) = !b

theorem zerosBelow_le (v : Word) (m : Nat) : zerosBelow v m ≤ m := by
  induction m with
  | zero => exact Nat.le_refl 0
  | succ m ih =>
    rw [zerosBelow]
    split <;> omega

/-- The bits that `zerosBelow` counts are zeros. -/
theorem getLsbD_of_zerosBelow (v : Word) {m k : Nat} (hk : m - zerosBelow v m ≤ k) (hkm : k < m) :
    v.getLsbD k = false := by
  induction m with
  | zero => omega
  | succ m ih =>
    rw [zerosBelow] at hk
    split at hk
    · omega
    · next hzero =>
      by_cases hlast : k = m
      · simpa [hlast] using hzero
      · exact ih (by omega) (by omega)

/-- The bit at which `zerosBelow` stops is a one. -/
theorem getLsbD_zerosBelow_stop (v : Word) {m : Nat} (h : zerosBelow v m < m) :
    v.getLsbD (m - 1 - zerosBelow v m) = true := by
  induction m with
  | zero => omega
  | succ m ih =>
    rw [zerosBelow] at h ⊢
    split at h
    · next hone => simp [hone]
    · next hzero =>
      have hplace : m + 1 - 1 - (zerosBelow v m + 1) = m - 1 - zerosBelow v m := by omega
      rw [if_neg hzero, hplace]
      exact ih (by omega)

theorem leadingBits_zeros (v : Word) : LeadingBits false v (leadingZeros v) where
  le := zerosBelow_le v 32
  leading _ := getLsbD_of_zerosBelow v
  next := getLsbD_zerosBelow_stop v

/-- The leading ones of a word are the leading zeros of its complement. -/
theorem leadingBits_ones (v : Word) : LeadingBits true v (leadingZeros (~~~v)) where
  le := zerosBelow_le _ 32
  leading k hk hlt := by simpa [hlt] using (leadingBits_zeros (~~~v)).leading k hk hlt
  next h := by
    have hlt : 31 - leadingZeros (~~~v) < 32 := by omega
    simpa [hlt] using (leadingBits_zeros (~~~v)).next h

/-- Settles O36: the counts are those of the leading bits; CLO is CLZ of the complement. -/
theorem leadingBitCounts : Obligations.LeadingBitCounts := by
  unfold Obligations.LeadingBitCounts
  intro rs rt rd s
  have hzeros := leadingBits_zeros (s.reg rs)
  have hones := leadingBits_ones (s.reg rs)
  exact ⟨decode_clz rs rt rd, decode_clo rs rt rd,
    ⟨_, hzeros.le, .of_completeReg (if_pos rfl), hzeros.leading, hzeros.next⟩,
    ⟨_, hones.le, .of_completeReg (if_pos rfl), hones.leading, hones.next⟩,
    fun hne => ⟨if_neg hne, if_neg hne⟩⟩

/-! ## Bit fields -/

theorem getLsbD_lowOnes {n : Nat} (hn : n ≤ 32) (i : Nat) : (lowOnes n).getLsbD i = decide (i < n) := by
  obtain hlt | rfl := Nat.lt_or_eq_of_le hn
  · exact getLsbD_one_shiftLeft_sub_one hlt i
  · have hall : lowOnes 32 = BitVec.allOnes 32 := by decide
    rw [hall, BitVec.getLsbD_allOnes]

theorem getLsbD_extractField (v : Word) {lsb msbd : Nat} (h : lsb + msbd ≤ 31) (k : Nat) :
    (extractField v lsb msbd).getLsbD k = (decide (k ≤ msbd) && v.getLsbD (lsb + k)) := by
  rw [extractField, BitVec.getLsbD_and, BitVec.getLsbD_ushiftRight, getLsbD_lowOnes (by omega), Bool.and_comm]
  simp only [Nat.lt_succ_iff]

theorem getLsbD_insertField (old v : Word) {lsb msb k : Nat} (hle : lsb ≤ msb) (hmsb : msb < 32) (hk : k < 32) :
    (insertField old v lsb msb).getLsbD k = if lsb ≤ k ∧ k ≤ msb then v.getLsbD (k - lsb) else old.getLsbD k := by
  have hmask : (lowOnes (msb - lsb + 1) <<< lsb).getLsbD k = decide (lsb ≤ k ∧ k ≤ msb) := by
    rw [BitVec.getLsbD_shiftLeft, getLsbD_lowOnes (by omega)]
    simp only [hk, decide_true, Bool.true_and]
    grind
  rw [insertField, BitVec.getLsbD_or, BitVec.getLsbD_and, BitVec.getLsbD_and, BitVec.getLsbD_not, hmask,
    BitVec.getLsbD_shiftLeft]
  by_cases hin : lsb ≤ k ∧ k ≤ msb
  · have habove : ¬k < lsb := by omega
    simp [hk, hin, habove]
  · simp [hk, hin]

/-- Settles O37: the field moves are given bit by bit, the extensions as the signed value of the low part. -/
theorem bitFieldsAndExtensions : Obligations.BitFieldsAndExtensions := by
  unfold Obligations.BitFieldsAndExtensions
  intro rs rt rd hi lsb s
  exact ⟨decode_ext rs rt hi lsb, decode_ins rs rt hi lsb, decode_seb rt rd, decode_seh rt rd, decode_wsbh rt rd,
    fun h => ⟨_, fun k _ => getLsbD_extractField _ h k, .of_completeReg (if_pos h)⟩,
    fun h => if_neg (Nat.not_le_of_lt h),
    fun h => ⟨_, fun _ => getLsbD_insertField _ _ h hi.isLt, .of_completeReg (if_pos h)⟩,
    fun h => if_neg (Nat.not_le_of_lt h),
    .of_completeReg_eq (sext8_eq_ofInt _) rfl, .of_completeReg_eq (sext16_eq_ofInt _) rfl, .of_completeReg rfl⟩

end Sys2Proof.Machine
end

section
/-!
Multiply, divide and the moves to and from HI and LO (41_computational.md R295 to R307): the products and quotients as
integers, the two corners of division, and O38 to O41 assembled from them.
-/
namespace Sys2Proof.Machine

open Sys2Proof

/-! ## Multiplication -/

theorem productSigned_eq_ofInt (a b : Word) : productSigned a b = BitVec.ofInt 64 (a.toInt * b.toInt) :=
  (BitVec.ofInt_mul _ _).symm

theorem productUnsigned_eq_ofNat (a b : Word) : productUnsigned a b = BitVec.ofNat 64 (a.toNat * b.toNat) := by
  rw [BitVec.ofNat_mul, BitVec.ofNat_toNat, BitVec.ofNat_toNat]
  rfl

/-- An instruction whose meaning writes `v` to HI and LO writes the halves of what `v` is equal to. -/
theorem Completes.of_setHiLo_eq {i : Instr} {s : State} {v p : BitVec 64} (hp : p = v)
    (h : exec i s = complete (s.setHiLo v)) :
    Completes i s (WritesHiLo (p.extractLsb' 32 32) (p.extractLsb' 0 32) s) :=
  hp ▸ .of_setHiLo h

/-- Settles O38: the 64-bit product of the extended operands is the exact product. -/
theorem multiplyAndAccumulate : Obligations.MultiplyAndAccumulate := by
  unfold Obligations.MultiplyAndAccumulate
  intro rs rt s
  rw [← productSigned_eq_ofInt, ← productUnsigned_eq_ofNat]
  exact ⟨decode_mult rs rt, decode_multu rs rt, decode_madd rs rt, decode_maddu rs rt, decode_msub rs rt,
    decode_msubu rs rt, fun _ hp => .of_setHiLo_eq hp rfl, fun _ hp => .of_setHiLo_eq hp rfl,
    fun _ hp => .of_setHiLo_eq hp rfl, fun _ hp => .of_setHiLo_eq hp rfl, fun _ hp => .of_setHiLo_eq hp rfl,
    fun _ hp => .of_setHiLo_eq hp rfl⟩

/-- HI and LO after `freeHiLo` are the next two free values (log entry 6). -/
theorem State.freeHiLo_eq (s : State) :
    s.freeHiLo = { s with hi := s.freeWord 0, lo := s.freeWord 1, freeIdx := s.freeIdx + 2 } := rfl

/-- Settles O39: the product is written in the state in which HI and LO have become open. -/
theorem multiplyToRegister : Obligations.MultiplyToRegister := by
  unfold Obligations.MultiplyToRegister
  intro rs rt rd s
  rw [← mul_eq_ofNat]
  exact ⟨decode_mul rs rt rd, s.freeWord 0, s.freeWord 1, s.freeIdx + 2, _, rfl,
    s.freeHiLo_eq ▸ WritesReg.setReg_advance s.freeHiLo rd _⟩

/-! ## Division -/

theorem word_eq_zero_iff (a : Word) : a = 0#32 ↔ a.toInt = 0 := by
  rw [← BitVec.toInt_inj, BitVec.toInt_zero]

/-- The corners of DIV are the zero divisor and the one quotient that does not fit in 32 bits (R302). -/
theorem divCorner_iff (a b : Word) :
    divCorner a b = true ↔ b.toInt = 0 ∨ (a.toInt = -(2 : Int) ^ 31 ∧ b.toInt = -1) := by
  have hmin : (0x80000000#32 : Word).toInt = -(2 : Int) ^ 31 := by decide
  have hneg : (0xFFFFFFFF#32 : Word).toInt = -1 := by decide
  rw [divCorner, Bool.or_eq_true, Bool.and_eq_true, beq_iff_eq, beq_iff_eq, beq_iff_eq, word_eq_zero_iff,
    ← hmin, ← hneg, BitVec.toInt_inj, BitVec.toInt_inj]

/-- Outside the corners the machine quotient is the quotient rounded toward zero. -/
theorem sdiv_eq_ofInt {a b : Word} (h : ¬(a.toInt = -(2 : Int) ^ 31 ∧ b.toInt = -1)) :
    a.sdiv b = BitVec.ofInt 32 (a.toInt.tdiv b.toInt) := by
  refine eq_ofInt_of_toInt (BitVec.toInt_sdiv_of_ne_or_ne a b (Decidable.not_and_iff_or_not.mp ?_))
  rintro ⟨rfl, rfl⟩
  exact h (by decide)

theorem srem_eq_ofInt (a b : Word) : a.srem b = BitVec.ofInt 32 (a.toInt.tmod b.toInt) :=
  eq_ofInt_of_toInt (BitVec.toInt_srem a b)

theorem udiv_eq_ofNat (a b : Word) : a.udiv b = BitVec.ofNat 32 (a.toNat / b.toNat) := by
  rw [← BitVec.toNat_udiv, BitVec.ofNat_toNat, BitVec.setWidth_eq]
  rfl

theorem umod_eq_ofNat (a b : Word) : a.umod b = BitVec.ofNat 32 (a.toNat % b.toNat) := by
  rw [← BitVec.toNat_umod, BitVec.ofNat_toNat, BitVec.setWidth_eq]
  rfl

/-- An instruction that leaves HI and LO open and completes. -/
theorem completes_of_freeHiLo {i : Instr} {s : State} (h : exec i s = complete s.freeHiLo) :
    ∃ hi lo n, Completes i s (NoEffect { s with hi := hi, lo := lo, freeIdx := n }) :=
  ⟨s.freeWord 0, s.freeWord 1, s.freeIdx + 2, _, h, s.freeHiLo_eq ▸ NoEffect.advance s.freeHiLo⟩

/-- An instruction whose meaning writes `h` to HI and `l` to LO writes what they are equal to. -/
theorem Completes.of_hiLo_eq {i : Instr} {s : State} {h l h' l' : Word} (hh : h = h') (hl : l = l')
    (he : exec i s = complete { s with hi := h, lo := l }) : Completes i s (WritesHiLo h' l' s) :=
  hh ▸ hl ▸ ⟨_, he, WritesHiLo.advance s h l⟩

/-- Settles O40: outside the corners the quotient fits, and machine division is that of the integers. -/
theorem division : Obligations.Division := by
  unfold Obligations.Division
  intro rs rt s
  refine ⟨decode_div rs rt, decode_divu rs rt, fun hzero hmin => ?div,
    fun hcorner => completes_of_freeHiLo (if_pos ((divCorner_iff _ _).mpr hcorner)), fun hzero => ?divu,
    fun hzero => completes_of_freeHiLo (if_pos (BitVec.eq_of_toNat_eq hzero))⟩
  case div =>
    have hcorner : ¬divCorner (s.reg rs) (s.reg rt) = true := fun h => ((divCorner_iff _ _).mp h).elim hzero hmin
    exact .of_hiLo_eq (srem_eq_ofInt _ _) (sdiv_eq_ofInt hmin) (if_neg hcorner)
  case divu =>
    have hne : s.reg rt ≠ 0#32 := fun h => hzero (congrArg BitVec.toNat h)
    exact .of_hiLo_eq (umod_eq_ofNat _ _) (udiv_eq_ofNat _ _) (if_neg hne)

/-! ## Moves to and from HI and LO -/

/-- Settles O41: each move reads and writes the one place its name says. -/
theorem hiLoMoves : Obligations.HiLoMoves := by
  unfold Obligations.HiLoMoves
  intro rs rd s
  exact ⟨decode_mfhi rd, decode_mflo rd, decode_mthi rs, decode_mtlo rs, .of_completeReg rfl, .of_completeReg rfl,
    .of_hiLo_eq rfl rfl rfl, .of_hiLo_eq rfl rfl rfl⟩

end Sys2Proof.Machine
end

section
/-!
Jumps and branches (42_jump_branch.md): how their words decode, their targets and conditions as arithmetic, one rule for
each way of transferring control, and O42 to O44 assembled from them.
-/
namespace Sys2Proof.Machine

open Sys2Proof

/-! ## The words of the jumps and branches (30_encoding.md R189 to R191) -/

section Decoding
variable (rs rt rd : Reg) (offset : BitVec 16) (index : BitVec 26)

theorem decode_j : decode (encJ 0x02#6 index) = .instr (.j index) := by simp [decode]
theorem decode_jal : decode (encJ 0x03#6 index) = .instr (.jal index) := by simp [decode]
theorem decode_jalx : decode (encJ 0x1D#6 index) = .instr (.jalx index) := by simp [decode]
theorem decode_jr : decode (encR 0x00#6 rs 0#5 0#5 0#5 0x08#6) = .instr (.jr rs) := by simp [decode, decodeSpecial]
theorem decode_jalr : decode (encR 0x00#6 rs 0#5 rd 0#5 0x09#6) = .instr (.jalr rs rd) := by
  simp [decode, decodeSpecial]
theorem decode_jrHb : decode (encR 0x00#6 rs 0#5 0#5 0x10#5 0x08#6) = .instr (.jrHb rs) := by
  simp [decode, decodeSpecial]
theorem decode_jalrHb : decode (encR 0x00#6 rs 0#5 rd 0x10#5 0x09#6) = .instr (.jalrHb rs rd) := by
  simp [decode, decodeSpecial]

theorem decode_beq : decode (encI 0x04#6 rs rt offset) = .instr (.beq rs rt offset) := by simp [decode]
theorem decode_bne : decode (encI 0x05#6 rs rt offset) = .instr (.bne rs rt offset) := by simp [decode]
theorem decode_blez : decode (encI 0x06#6 rs 0#5 offset) = .instr (.blez rs offset) := by simp [decode, whenZero]
theorem decode_bgtz : decode (encI 0x07#6 rs 0#5 offset) = .instr (.bgtz rs offset) := by simp [decode, whenZero]
theorem decode_beql : decode (encI 0x14#6 rs rt offset) = .instr (.beql rs rt offset) := by simp [decode]
theorem decode_bnel : decode (encI 0x15#6 rs rt offset) = .instr (.bnel rs rt offset) := by simp [decode]
theorem decode_blezl : decode (encI 0x16#6 rs 0#5 offset) = .instr (.blezl rs offset) := by simp [decode, whenZero]
theorem decode_bgtzl : decode (encI 0x17#6 rs 0#5 offset) = .instr (.bgtzl rs offset) := by simp [decode, whenZero]

theorem decode_bltz : decode (encI 0x01#6 rs 0x00#5 offset) = .instr (.bltz rs offset) := by
  simp [decode, decodeRegimm]
theorem decode_bgez : decode (encI 0x01#6 rs 0x01#5 offset) = .instr (.bgez rs offset) := by
  simp [decode, decodeRegimm]
theorem decode_bltzl : decode (encI 0x01#6 rs 0x02#5 offset) = .instr (.bltzl rs offset) := by
  simp [decode, decodeRegimm]
theorem decode_bgezl : decode (encI 0x01#6 rs 0x03#5 offset) = .instr (.bgezl rs offset) := by
  simp [decode, decodeRegimm]
theorem decode_bltzal : decode (encI 0x01#6 rs 0x10#5 offset) = .instr (.bltzal rs offset) := by
  simp [decode, decodeRegimm]
theorem decode_bgezal : decode (encI 0x01#6 rs 0x11#5 offset) = .instr (.bgezal rs offset) := by
  simp [decode, decodeRegimm]
theorem decode_bltzall : decode (encI 0x01#6 rs 0x12#5 offset) = .instr (.bltzall rs offset) := by
  simp [decode, decodeRegimm]
theorem decode_bgezall : decode (encI 0x01#6 rs 0x13#5 offset) = .instr (.bgezall rs offset) := by
  simp [decode, decodeRegimm]

end Decoding

/-! ## Targets (30_encoding.md R187, R188, 42_jump_branch.md R345) -/

/-- R188: the four top bits are those of the delay slot's address, and the index counts words. -/
theorem jumpTarget_eq_ofNat (b : Word) (index : BitVec 26) :
    jumpTarget b index = BitVec.ofNat 32 ((b + 4#32).toNat / 2 ^ 28 * 2 ^ 28 + index.toNat * 4) := by
  have hslot := (b + 4#32).isLt
  have hindex := index.isLt
  apply BitVec.eq_of_toNat_eq
  rw [jumpTarget, BitVec.toNat_append, BitVec.toNat_append, BitVec.extractLsb'_toNat, BitVec.toNat_ofNat,
    ← Nat.shiftLeft_add_eq_or_of_lt hindex, ← Nat.shiftLeft_add_eq_or_of_lt (by decide), Nat.shiftLeft_eq,
    Nat.shiftLeft_eq, Nat.shiftRight_eq_div_pow, BitVec.toNat_ofNat]
  omega

/-- R345: the address is the register with bit 0 cleared. -/
theorem jumpAddress_eq_ofNat (v : Word) : jumpAddress v = BitVec.ofNat 32 (v.toNat / 2 * 2) := by
  have hlt := v.isLt
  apply BitVec.eq_of_toNat_eq
  rw [jumpAddress, BitVec.toNat_append, BitVec.extractLsb'_toNat, ← Nat.shiftLeft_add_eq_or_of_lt (by decide),
    Nat.shiftLeft_eq, Nat.shiftRight_eq_div_pow, BitVec.toNat_ofNat, BitVec.toNat_ofNat]
  omega

/-- R345: the mode is bit 0 of the register. -/
theorem jumpIsa_eq_decide (v : Word) : jumpIsa v = decide (v.toNat % 2 = 1) := Nat.testBit_zero v.toNat

/-- The signed value of an offset followed by two zeros is four times that of the offset. -/
theorem toInt_append_zero (offset : BitVec 16) : (offset ++ 0#2).toInt = 4 * offset.toInt := by
  have hlt := offset.isLt
  have hnat : (offset ++ 0#2).toNat = offset.toNat * 4 := by
    rw [BitVec.toNat_append, BitVec.toNat_ofNat, Nat.shiftLeft_eq, Nat.zero_mod, Nat.or_zero]
  rw [BitVec.toInt_eq_toNat_cond, BitVec.toInt_eq_toNat_cond, hnat]
  split <;> split <;> omega

/-- R187 in integers: the sum wraps at 2^32. -/
theorem branchTarget_eq_ofInt (b : Word) (offset : BitVec 16) :
    branchTarget b offset = BitVec.ofInt 32 (b.toNat + 4 + 4 * offset.toInt) := by
  have hoffset : (offset ++ 0#2).signExtend 32 = BitVec.ofInt 32 (4 * offset.toInt) :=
    congrArg (BitVec.ofInt 32) (toInt_append_zero offset)
  rw [branchTarget, hoffset, BitVec.ofInt_add, BitVec.ofInt_add, BitVec.ofInt_natCast, BitVec.ofNat_toNat,
    BitVec.setWidth_eq]
  rfl

/-! ## Conditions (42_jump_branch.md R353 to R360) -/

theorem isNegative_iff (v : Word) : isNegative v = true ↔ v.toInt < 0 := by
  rw [isNegative, BitVec.msb_eq_toInt, decide_eq_true_iff]

theorem not_isNegative_iff (v : Word) : (!isNegative v) = true ↔ 0 ≤ v.toInt := by
  rw [Bool.not_eq_true', ← Bool.not_eq_true, isNegative_iff, Int.not_lt]

theorem notPositive_iff (v : Word) : notPositive v = true ↔ v.toInt ≤ 0 := by
  rw [notPositive, Bool.or_eq_true, beq_iff_eq, ← isNegative, isNegative_iff, word_eq_zero_iff, Int.le_iff_lt_or_eq]

theorem not_notPositive_iff (v : Word) : (!notPositive v) = true ↔ 0 < v.toInt := by
  rw [Bool.not_eq_true', ← Bool.not_eq_true, notPositive_iff, Int.not_le]

/-! ## Frames of transfers -/

theorem SystemSame.trans {s u t : State} (h : SystemSame s u) (h' : SystemSame u t) : SystemSame s t where
  llbit := h'.llbit.trans h.llbit
  waiting := h'.waiting.trans h.waiting
  cp0 := h'.cp0.trans h.cp0
  mem a := (h'.mem a).trans (h.mem a)
  devRegs := h'.devRegs.trans h.devRegs
  intReq := h'.intReq.trans h.intReq
  schedule := h'.schedule.trans h.schedule
  cfg := h'.cfg.trans h.cfg

theorem TransferFrame.trans {s u t : State} (h : TransferFrame s u) (h' : TransferFrame u t) : TransferFrame s t where
  acc := by
    obtain ⟨hhi, hlo, hfree⟩ := h.acc
    obtain ⟨hhi', hlo', hfree'⟩ := h'.acc
    exact ⟨hhi'.trans hhi, hlo'.trans hlo, hfree'.trans hfree⟩
  system := h.system.trans h'.system
  hazards := h'.hazards.trans h.hazards
  staleStatus := h'.staleStatus.trans h.staleStatus
  code := h'.code.trans h.code

/-- Nothing happens: what the transfers that do not link start from. -/
theorem TransferFrame.refl (s : State) : TransferFrame s s :=
  ⟨⟨rfl, rfl, rfl⟩, ⟨rfl, rfl, rfl, fun _ => rfl, rfl, rfl, rfl, rfl⟩, rfl, rfl, rfl⟩

/-- Writing a register of the current set, as a link does. -/
theorem TransferFrame.setReg (s : State) (r : Reg) (v : Word) : TransferFrame s (s.setReg r v) :=
  ⟨⟨by simp, by simp, by simp⟩, by constructor <;> simp, by simp, by simp, by simp⟩

/-- Going on at the target at once, as a likely branch that is not taken does. -/
theorem TransferFrame.goto (s : State) (target : Word) : TransferFrame s (s.goto target) :=
  ⟨⟨rfl, rfl, rfl⟩, ⟨rfl, rfl, rfl, fun _ => rfl, rfl, rfl, rfl, rfl⟩, rfl, rfl, rfl⟩

/-! ## The state a transfer is made from -/

/-- A control transfer of `s` is made from `u`: `s` itself, or `s` with its link register written. `regs` is what the
general registers after the transfer are to meet; it holds wherever they read as in `u`. -/
structure TransfersFrom (regs : State → Prop) (s u : State) : Prop where
  pc : u.pc = s.pc
  isaMode : u.isaMode = s.isaMode
  delaySlot : u.delaySlot = s.delaySlot
  frame : TransferFrame s u
  regs : ∀ t, SameRegs u t → regs t

/-- A transfer that does not link is made from the state itself. -/
theorem TransfersFrom.unlinked (s : State) : TransfersFrom (SameRegs s) s s where
  pc := rfl
  isaMode := rfl
  delaySlot := rfl
  frame := .refl s
  regs _ h := h

/-- A transfer that links is made from the state with the link register written (R341). -/
theorem TransfersFrom.linked (s : State) (r : Reg) (v : Word) :
    TransfersFrom (OnlyReg s.cp0.srs.css r v s) s (s.setReg r v) where
  pc := s.setReg_pc r v
  isaMode := s.setReg_isaMode r v
  delaySlot := s.setReg_delaySlot r v
  frame := .setReg s r v
  regs t h := by
    obtain ⟨hlink, hothers⟩ := OnlyReg.setRegOf s s.cp0.srs.css r v
    exact ⟨(h _ _).trans hlink, fun set' r' hne => (h _ _).trans (hothers set' r' hne)⟩

/-! ## The ways of transferring control -/

section Transfers
variable {regs : State → Prop} {s u : State}

/-- The delay slot next, the target after it (R340). -/
theorem TransfersFrom.branchVia (h : TransfersFrom regs s u) (target : Word) (isa barrier : Bool) :
    SlotThen target isa barrier s (u.branchVia target isa barrier) ∧ regs (u.branchVia target isa barrier) ∧
      TransferFrame s (u.branchVia target isa barrier) := by
  have hslot := SlotThen.branchVia u target isa barrier
  exact ⟨{ hslot with pc := h.pc ▸ hslot.pc, isaMode := h.isaMode ▸ hslot.isaMode, slot := h.pc ▸ hslot.slot },
    h.regs _ (State.regOf_congr rfl), h.frame.trans (.branchVia u target isa barrier)⟩

/-- The target at once (R342). -/
theorem TransfersFrom.goto (h : TransfersFrom regs s u) (hslot : s.delaySlot = none) (target : Word) :
    GoesTo target s (u.goto target) ∧ regs (u.goto target) ∧ TransferFrame s (u.goto target) :=
  ⟨⟨rfl, h.isaMode, h.delaySlot.trans hslot⟩, h.regs _ (State.regOf_congr rfl),
    h.frame.trans (.goto u target)⟩

variable {c : Bool} {p : Prop} [Decidable p]

/-- A conditional branch whose test `c` is that `p` holds (R340). -/
theorem TransfersFrom.branchIf (h : TransfersFrom regs s u) (hc : c = true ↔ p) (offset : BitVec 16) :
    SlotThen (if p then BitVec.ofInt 32 (s.pc.toNat + 4 + 4 * offset.toInt) else s.pc + 8#32) s.isaMode false s
      (u.branchIf c offset) ∧ regs (u.branchIf c offset) ∧ TransferFrame s (u.branchIf c offset) := by
  have htarget : (if c then branchTarget u.pc offset else u.pc + 8#32) =
      if p then BitVec.ofInt 32 (s.pc.toNat + 4 + 4 * offset.toInt) else s.pc + 8#32 := by
    simp only [hc, h.pc, branchTarget_eq_ofInt]
  rw [← htarget, ← h.isaMode]
  exact h.branchVia _ _ _

/-- A likely branch whose test `c` is that `p` holds (R342). -/
theorem TransfersFrom.branchLikely (h : TransfersFrom regs s u) (hslot : s.delaySlot = none) (hc : c = true ↔ p)
    (offset : BitVec 16) :
    (if p then SlotThen (BitVec.ofInt 32 (s.pc.toNat + 4 + 4 * offset.toInt)) s.isaMode false s
        (u.branchLikely c offset)
      else GoesTo (s.pc + 8#32) s (u.branchLikely c offset)) ∧
      regs (u.branchLikely c offset) ∧ TransferFrame s (u.branchLikely c offset) := by
  rw [State.branchLikely, branchTarget_eq_ofInt, h.pc, h.isaMode]
  by_cases hp : p
  · rw [if_pos hp, if_pos (hc.mpr hp)]
    exact h.branchVia _ _ _
  · rw [if_neg hp, if_neg (mt hc.mp hp)]
    exact h.goto hslot _

end Transfers

/-! ## The obligations -/

/-- A transfer that would read the register it links in is refused (R341). -/
theorem linkingTransfer_self (r : Reg) (s t : State) : linkingTransfer r r s t = .refused .readsLinkRegister :=
  if_pos rfl

/-- Settles O42: each jump is one transfer, from the state itself or from the linked one. -/
theorem jumps : Obligations.Jumps := by
  unfold Obligations.Jumps
  intro rs rd index s
  rw [← jumpTarget_eq_ofNat, ← jumpAddress_eq_ofNat, ← jumpIsa_eq_decide]
  refine ⟨decode_j index, decode_jal index, decode_jalx index, decode_jr rs, decode_jalr rs rd, decode_jrHb rs,
    decode_jalrHb rs rd, ?refused, fun hslot => ?outside⟩
  case refused =>
    rintro rfl
    exact ⟨linkingTransfer_self _ _ _, linkingTransfer_self _ _ _⟩
  case outside =>
    have plain := TransfersFrom.unlinked s
    have linked (r : Reg) := TransfersFrom.linked s r (s.pc + 8#32)
    exact ⟨⟨_, controlTransfer_of_none _ hslot, plain.branchVia _ _ _⟩,
      ⟨_, controlTransfer_of_none _ hslot, (linked 31#5).branchVia _ _ _⟩,
      ⟨_, controlTransfer_of_none _ hslot, (linked 31#5).branchVia _ _ _⟩,
      ⟨_, controlTransfer_of_none _ hslot, plain.branchVia _ _ _⟩,
      ⟨_, controlTransfer_of_none _ hslot, plain.branchVia _ _ _⟩,
      fun hne => ⟨⟨_, linkingTransfer_of_none _ hne hslot, (linked rd).branchVia _ _ _⟩,
        ⟨_, linkingTransfer_of_none _ hne hslot, (linked rd).branchVia _ _ _⟩⟩⟩

/-- Settles O43: each branch is one conditional transfer from the state itself, its test the condition of its rule. -/
theorem branches : Obligations.Branches := by
  unfold Obligations.Branches
  intro rs rt offset s
  refine ⟨decode_beq rs rt offset, decode_bne rs rt offset, decode_blez rs offset, decode_bgtz rs offset,
    decode_bltz rs offset, decode_bgez rs offset, decode_beql rs rt offset, decode_bnel rs rt offset,
    decode_blezl rs offset, decode_bgtzl rs offset, decode_bltzl rs offset, decode_bgezl rs offset,
    fun hslot => ?outside⟩
  have plain := TransfersFrom.unlinked s
  exact ⟨⟨_, controlTransfer_of_none _ hslot, plain.branchIf beq_iff_eq offset⟩,
    ⟨_, controlTransfer_of_none _ hslot, plain.branchIf bne_iff_ne offset⟩,
    ⟨_, controlTransfer_of_none _ hslot, plain.branchIf (notPositive_iff _) offset⟩,
    ⟨_, controlTransfer_of_none _ hslot, plain.branchIf (not_notPositive_iff _) offset⟩,
    ⟨_, controlTransfer_of_none _ hslot, plain.branchIf (isNegative_iff _) offset⟩,
    ⟨_, controlTransfer_of_none _ hslot, plain.branchIf (not_isNegative_iff _) offset⟩,
    ⟨_, controlTransfer_of_none _ hslot, plain.branchLikely hslot beq_iff_eq offset⟩,
    ⟨_, controlTransfer_of_none _ hslot, plain.branchLikely hslot bne_iff_ne offset⟩,
    ⟨_, controlTransfer_of_none _ hslot, plain.branchLikely hslot (notPositive_iff _) offset⟩,
    ⟨_, controlTransfer_of_none _ hslot, plain.branchLikely hslot (not_notPositive_iff _) offset⟩,
    ⟨_, controlTransfer_of_none _ hslot, plain.branchLikely hslot (isNegative_iff _) offset⟩,
    ⟨_, controlTransfer_of_none _ hslot, plain.branchLikely hslot (not_isNegative_iff _) offset⟩⟩

/-- Settles O44: each linking branch is one conditional transfer from the linked state, its test made on `s`. -/
theorem linkingBranches : Obligations.LinkingBranches := by
  unfold Obligations.LinkingBranches
  intro rs offset s
  refine ⟨decode_bltzal rs offset, decode_bgezal rs offset, decode_bltzall rs offset, decode_bgezall rs offset,
    ?refused, fun hslot hne => ?outside⟩
  case refused =>
    simp only [List.forall_mem_cons]
    -- The guard of each compares 31 with itself.
    exact ⟨rfl, rfl, rfl, rfl, List.forall_mem_nil _⟩
  case outside =>
    have linked := TransfersFrom.linked s 31#5 (s.pc + 8#32)
    exact ⟨⟨_, linkingTransfer_of_none _ hne hslot, linked.branchIf (isNegative_iff _) offset⟩,
      ⟨_, linkingTransfer_of_none _ hne hslot, linked.branchIf (not_isNegative_iff _) offset⟩,
      ⟨_, linkingTransfer_of_none _ hne hslot, linked.branchLikely hslot (isNegative_iff _) offset⟩,
      ⟨_, linkingTransfer_of_none _ hne hslot, linked.branchLikely hslot (not_isNegative_iff _) offset⟩⟩

end Sys2Proof.Machine
end

section
/-!
Traps, system call and breakpoint, conditional moves, instructions without effect, RDHWR (43_miscellaneous.md): how their
words decode, the trap conditions as comparisons of numbers, what an exception outside Debug mode records, and O46 to O50
assembled from them.
-/
namespace Sys2Proof.Machine

open Sys2Proof

/-! ## The words of the miscellaneous instructions (30_encoding.md R189 to R193) -/

section Decoding
variable (rs rt rd base hint stype : BitVec 5) (trapCode : BitVec 10) (code : BitVec 20) (imm : BitVec 16)

theorem decode_tge : decode (encTrap rs rt trapCode 0x30#6) = .instr (.tge rs rt trapCode) := by
  simp [decode, decodeSpecial]
theorem decode_tgeu : decode (encTrap rs rt trapCode 0x31#6) = .instr (.tgeu rs rt trapCode) := by
  simp [decode, decodeSpecial]
theorem decode_tlt : decode (encTrap rs rt trapCode 0x32#6) = .instr (.tlt rs rt trapCode) := by
  simp [decode, decodeSpecial]
theorem decode_tltu : decode (encTrap rs rt trapCode 0x33#6) = .instr (.tltu rs rt trapCode) := by
  simp [decode, decodeSpecial]
theorem decode_teq : decode (encTrap rs rt trapCode 0x34#6) = .instr (.teq rs rt trapCode) := by
  simp [decode, decodeSpecial]
theorem decode_tne : decode (encTrap rs rt trapCode 0x36#6) = .instr (.tne rs rt trapCode) := by
  simp [decode, decodeSpecial]
theorem decode_tgei : decode (encI 0x01#6 rs 0x08#5 imm) = .instr (.tgei rs imm) := by simp [decode, decodeRegimm]
theorem decode_tgeiu : decode (encI 0x01#6 rs 0x09#5 imm) = .instr (.tgeiu rs imm) := by simp [decode, decodeRegimm]
theorem decode_tlti : decode (encI 0x01#6 rs 0x0A#5 imm) = .instr (.tlti rs imm) := by simp [decode, decodeRegimm]
theorem decode_tltiu : decode (encI 0x01#6 rs 0x0B#5 imm) = .instr (.tltiu rs imm) := by simp [decode, decodeRegimm]
theorem decode_teqi : decode (encI 0x01#6 rs 0x0C#5 imm) = .instr (.teqi rs imm) := by simp [decode, decodeRegimm]
theorem decode_tnei : decode (encI 0x01#6 rs 0x0E#5 imm) = .instr (.tnei rs imm) := by simp [decode, decodeRegimm]

theorem decode_syscall : decode (encCode 0x00#6 code 0x0C#6) = .instr (.syscall code) := by
  simp [decode, decodeSpecial]
theorem decode_break : decode (encCode 0x00#6 code 0x0D#6) = .instr (.break_ code) := by
  simp [decode, decodeSpecial]

theorem decode_movn : decode (encR 0x00#6 rs rt rd 0#5 0x0B#6) = .instr (.movn rs rt rd) := by
  simp [decode, decodeSpecial, whenZero]
theorem decode_movz : decode (encR 0x00#6 rs rt rd 0#5 0x0A#6) = .instr (.movz rs rt rd) := by
  simp [decode, decodeSpecial, whenZero]

theorem decode_nop : decode 0x00000000#32 = .instr .nop := by decide
theorem decode_ssnop : decode 0x00000040#32 = .instr .ssnop := by decide
theorem decode_ehb : decode 0x000000C0#32 = .instr .ehb := by decide
theorem decode_sync : decode (encR 0x00#6 0#5 0#5 0#5 stype 0x0F#6) = .instr (.sync stype) := by
  simp [decode, decodeSpecial, whenZero]
theorem decode_pref : decode (encI 0x33#6 base hint imm) = .instr (.pref base hint imm) := by simp [decode]
theorem decode_cache : decode (encI 0x2F#6 base hint imm) = .instr (.cache base hint imm) := by simp [decode]
theorem decode_rdhwr : decode (encR 0x1F#6 0#5 rt rd 0#5 0x3B#6) = .instr (.rdhwr rt rd) := by
  simp [decode, decodeSpecial3, whenZero]

end Decoding

/-! ## Trap conditions (R384 to R395) -/

theorem lessSigned_iff (a b : Word) : lessSigned a b = true ↔ a.toInt < b.toInt := BitVec.slt_iff_toInt_lt

theorem not_lessSigned_iff (a b : Word) : (!lessSigned a b) = true ↔ b.toInt ≤ a.toInt := by
  rw [Bool.not_eq_true', ← Bool.not_eq_true, lessSigned_iff, Int.not_lt]

theorem lessUnsigned_iff (a b : Word) : lessUnsigned a b = true ↔ a.toNat < b.toNat := by
  rw [lessUnsigned, BitVec.ult_iff_lt, BitVec.lt_def]

theorem not_lessUnsigned_iff (a b : Word) : (!lessUnsigned a b) = true ↔ b.toNat ≤ a.toNat := by
  rw [Bool.not_eq_true', ← Bool.not_eq_true, lessUnsigned_iff, Nat.not_lt]

/-- An instruction whose meaning is a trap on `c` takes Tr where `p`, which `c` tests, holds, and has no effect elsewhere.
In the uses below `h` is the instruction's arm of `exec`, by `rfl`. -/
theorem traps_or_completes {i : Instr} {s : State} {c : Bool} {p : Prop} [Decidable p] (hc : c = true ↔ p)
    (h : exec i s = trapIf c s) : if p then Takes (exec i s) .tr s else Completes i s (NoEffect s) := by
  split
  · next hp =>
    rw [h, trapIf, if_pos (hc.mpr hp)]
    exact takes_takeException .tr s
  · next hp => exact .of_complete (h.trans (if_neg fun hct => hp (hc.mp hct)))

/-- Settles O46: each trap is `trapIf` on the test of its rule, an immediate form on the sign-extended immediate. -/
theorem trapInstructions : Obligations.TrapInstructions := by
  unfold Obligations.TrapInstructions
  intro rs rt code imm s
  rw [← sext16_eq_ofInt, ← toInt_sext16]
  exact ⟨decode_tge rs rt code, decode_tgeu rs rt code, decode_tlt rs rt code, decode_tltu rs rt code,
    decode_teq rs rt code, decode_tne rs rt code, decode_tgei rs imm, decode_tgeiu rs imm, decode_tlti rs imm,
    decode_tltiu rs imm, decode_teqi rs imm, decode_tnei rs imm,
    traps_or_completes (not_lessSigned_iff _ _) rfl, traps_or_completes (not_lessUnsigned_iff _ _) rfl,
    traps_or_completes (lessSigned_iff _ _) rfl, traps_or_completes (lessUnsigned_iff _ _) rfl,
    traps_or_completes beq_iff_eq rfl, traps_or_completes bne_iff_ne rfl,
    traps_or_completes (not_lessSigned_iff _ _) rfl, traps_or_completes (not_lessUnsigned_iff _ _) rfl,
    traps_or_completes (lessSigned_iff _ _) rfl, traps_or_completes (lessUnsigned_iff _ _) rfl,
    traps_or_completes beq_iff_eq rfl, traps_or_completes bne_iff_ne rfl⟩

/-! ## What an exception outside Debug mode records (60_exceptions.md R480 to R482) -/

theorem State.savedPc_of_none {s : State} (h : s.delaySlot = none) :
    s.savedPc = s.pc.extractLsb' 1 31 ++ BitVec.ofBool s.isaMode := by
  rw [State.savedPc, State.restartPc, h]

theorem State.savedPc_of_some {s : State} {d : DelaySlot} (h : s.delaySlot = some d) :
    s.savedPc = d.branch.extractLsb' 1 31 ++ BitVec.ofBool s.isaMode := by
  rw [State.savedPc, State.restartPc, h]

theorem raise_excCode {s : State} (e : Exc) (h : s.cp0.dbg.dm = false) : (raise e s).cp0.cause.excCode = e.code := by
  rw [raise_outside e h]
  rfl

theorem raise_exl {s : State} (e : Exc) (h : s.cp0.dbg.dm = false) : (raise e s).cp0.status.exl = true := by
  rw [raise_outside e h, enterException_status]

theorem raise_epc {s : State} (e : Exc) (h : s.cp0.dbg.dm = false) (hexl : s.cp0.status.exl = false) :
    (raise e s).cp0.epc = s.savedPc := by
  rw [raise_outside e h, enterException_cp0]
  simp [exceptionCp0, hexl]

theorem raise_bd {s : State} (e : Exc) (h : s.cp0.dbg.dm = false) (hexl : s.cp0.status.exl = false) :
    (raise e s).cp0.cause.bd = s.delaySlot.isSome := by
  rw [raise_outside e h, enterException_cp0]
  simp [exceptionCp0, exceptionCause, hexl, State.inDelaySlot]

/-- Settles O47: both instructions are `takeException`, and what the entry records is the same for both but for the
code. -/
theorem systemCallAndBreakpoint : Obligations.SystemCallAndBreakpoint := by
  unfold Obligations.SystemCallAndBreakpoint
  intro code s
  refine ⟨decode_syscall code, decode_break code, takes_takeException .sys s, takes_takeException .bp s,
    fun hnone => ⟨takeException_of_none .sys hnone, takeException_of_none .bp hnone⟩, fun hdm e he => ?recorded⟩
  case recorded =>
    have hcode : e.code = if e = .sys then 8#5 else 9#5 := by
      obtain rfl | rfl : e = .sys ∨ e = .bp := by simpa using he
      · rfl
      · rfl
    refine ⟨(raise_excCode e hdm).trans hcode, raise_exl e hdm, fun hexl => ?address⟩
    rw [raise_epc e hdm hexl, raise_bd e hdm hexl]
    exact ⟨fun hslot => ⟨State.savedPc_of_none hslot, by rw [hslot]; rfl⟩,
      fun d hslot => ⟨State.savedPc_of_some hslot, by rw [hslot]; rfl⟩⟩

/-! ## Conditional moves -/

/-- Settles O48: in each case one of the two instructions is the register write and the other only completes. -/
theorem conditionalMoves : Obligations.ConditionalMoves := by
  unfold Obligations.ConditionalMoves
  intro rs rt rd s
  exact ⟨decode_movn rs rt rd, decode_movz rs rt rd,
    fun hne => ⟨.of_completeReg (if_neg hne), .of_complete (if_neg hne)⟩,
    fun heq => ⟨.of_completeReg (if_pos heq), .of_complete (if_pos heq)⟩⟩

/-! ## Instructions without effect -/

/-- Settles O49: each of them only completes, EHB from the state without execution hazards, and CACHE is first checked for
the use of Coprocessor 0. -/
theorem instructionsWithoutEffect : Obligations.InstructionsWithoutEffect := by
  unfold Obligations.InstructionsWithoutEffect
  intro base hint stype offset s
  refine ⟨decode_nop, decode_ssnop, decode_ehb, decode_sync stype, decode_pref base hint offset,
    decode_cache base hint offset, ?plain, ⟨_, rfl, NoEffect.advance s.executionBarrier⟩,
    fun husable => .of_complete (withCop0_usable _ husable), fun hunusable => ?cache⟩
  case plain =>
    simp only [List.forall_mem_cons]
    exact ⟨.of_complete rfl, .of_complete rfl, .of_complete rfl, .of_complete rfl, List.forall_mem_nil _⟩
  case cache =>
    have hexec : exec (.cache base hint offset) s = takeException (.cpu 0#2) s := withCop0_unusable _ hunusable
    exact hexec ▸ takes_takeException (.cpu 0#2) s

/-! ## Hardware registers (R401) -/

/-- Coprocessor 0 is usable outside User mode, and in it with CU0 (44_coprocessor.md R430). -/
theorem State.cop0Usable_iff (s : State) : s.cop0Usable = true ↔ s.userMode = false ∨ s.cp0.status.cu0 = true := by
  rw [State.cop0Usable, cop0UsableIn, Bool.or_eq_true, Bool.not_eq_true', State.userMode]

theorem hardwareRegisterAllowed_iff (rd : Reg) (s : State) : hardwareRegisterAllowed rd s = true ↔
    rd.toNat ≤ 3 ∧ (s.userMode = false ∨ s.cp0.status.cu0 = true ∨ s.cp0.hwrEna.getLsbD rd.toNat = true) := by
  rw [hardwareRegisterAllowed, Bool.and_eq_true, decide_eq_true_iff, Bool.or_eq_true, s.cop0Usable_iff, or_assoc]

theorem hardwareRegister_eq (rd : Reg) (s : State) :
    hardwareRegister rd s = if rd = 2#5 then s.cp0.count else if rd = 3#5 then 2#32 else 0#32 := by
  unfold hardwareRegister
  split
  · rfl
  · rfl
  · next hcount hres => rw [if_neg hcount, if_neg hres]

/-- RDHWR of a register it may not read raises RI. -/
theorem takes_rdhwr {rt rd : Reg} {s : State} (h : ¬hardwareRegisterAllowed rd s = true) :
    Takes (exec (.rdhwr rt rd) s) .ri s := by
  have hexec : exec (.rdhwr rt rd) s = takeException .ri s := if_neg h
  exact hexec ▸ takes_takeException .ri s

/-- Settles O50: RDHWR writes the hardware register exactly where R401 allows the read. -/
theorem readHardwareRegister : Obligations.ReadHardwareRegister := by
  unfold Obligations.ReadHardwareRegister
  intro rt rd s
  rw [← hardwareRegister_eq]
  refine ⟨decode_rdhwr rt rd, fun habove => takes_rdhwr ?absent, fun hle => ⟨?denied, fun hmay => ?allowed⟩⟩
  case absent =>
    rw [hardwareRegisterAllowed_iff]
    exact fun ⟨hle, _⟩ => habove.not_ge hle
  case denied =>
    rintro ⟨huser, hcu0, hena⟩
    refine takes_rdhwr ?_
    rw [hardwareRegisterAllowed_iff]
    simp [huser, hcu0, hena]
  case allowed =>
    exact .of_completeReg (if_pos ((hardwareRegisterAllowed_iff rd s).mpr ⟨hle, hmay⟩))

end Sys2Proof.Machine
end

section
/-!
The words and the privilege of the coprocessor instructions (44_coprocessor.md R430, R441 to R446): how they decode, which
instructions and words need Coprocessor 0, what they do where it is unusable, and O51, O52 and O58 assembled from these.
-/
namespace Sys2Proof.Machine

open Sys2Proof

/-! ## The words of the coprocessor instructions (30_encoding.md R189, R194) -/

section Decoding
variable (rt rd base : Reg) (bits : BitVec 26) (offset : BitVec 16)

theorem decode_cop1 : decode (encJ 0x11#6 bits) = .instr (.cop1 bits) := by simp [decode]
theorem decode_cop2 : decode (encJ 0x12#6 bits) = .instr (.cop2 bits) := by simp [decode]
theorem decode_cop1x : decode (encJ 0x13#6 bits) = .instr (.cop1x bits) := by simp [decode]
theorem decode_lwc1 : decode (encI 0x31#6 base rt offset) = .instr (.lwc1 base rt offset) := by simp [decode]
theorem decode_lwc2 : decode (encI 0x32#6 base rt offset) = .instr (.lwc2 base rt offset) := by simp [decode]
theorem decode_ldc1 : decode (encI 0x35#6 base rt offset) = .instr (.ldc1 base rt offset) := by simp [decode]
theorem decode_ldc2 : decode (encI 0x36#6 base rt offset) = .instr (.ldc2 base rt offset) := by simp [decode]
theorem decode_swc1 : decode (encI 0x39#6 base rt offset) = .instr (.swc1 base rt offset) := by simp [decode]
theorem decode_swc2 : decode (encI 0x3A#6 base rt offset) = .instr (.swc2 base rt offset) := by simp [decode]
theorem decode_sdc1 : decode (encI 0x3D#6 base rt offset) = .instr (.sdc1 base rt offset) := by simp [decode]
theorem decode_sdc2 : decode (encI 0x3E#6 base rt offset) = .instr (.sdc2 base rt offset) := by simp [decode]

/-- Bits 4:0 of a word are those of its function field. -/
theorem extractLsb'_functOf (w : Word) : w.extractLsb' 0 5 = (functOf w).extractLsb' 0 5 := by
  rw [functOf, BitVec.extractLsb'_extractLsb'_of_le (by decide)]

/-- Bit 5 of a word is that of its function field. -/
theorem getElem_functOf (w : Word) : w[5] = (functOf w)[5] := by
  simp [functOf]

theorem decode_di : decode (encR 0x10#6 0x0B#5 rt 0x0C#5 0#5 0x00#6) = .instr (.di rt) := by
  simp [decode, decodeCop0, decodeMfmc0, whenZeroCop0, extractLsb'_functOf, getElem_functOf]
theorem decode_ei : decode (encR 0x10#6 0x0B#5 rt 0x0C#5 0#5 0x20#6) = .instr (.ei rt) := by
  simp [decode, decodeCop0, decodeMfmc0, whenZeroCop0, extractLsb'_functOf, getElem_functOf]
theorem decode_rdpgpr : decode (encR 0x10#6 0x0A#5 rt rd 0#5 0x00#6) = .instr (.rdpgpr rt rd) := by
  simp [decode, decodeCop0, whenZeroCop0]
theorem decode_wrpgpr : decode (encR 0x10#6 0x0E#5 rt rd 0#5 0x00#6) = .instr (.wrpgpr rt rd) := by
  simp [decode, decodeCop0, whenZeroCop0]

theorem decode_eret : decode (encCo 0#19 0x18#6) = .instr .eret := by decide
theorem decode_deret : decode (encCo 0#19 0x1F#6) = .instr .deret := by decide
theorem decode_tlbr : decode 0x42000001#32 = .instr .tlbr := by decide
theorem decode_tlbwi : decode 0x42000002#32 = .instr .tlbwi := by decide
theorem decode_tlbwr : decode 0x42000006#32 = .instr .tlbwr := by decide
theorem decode_tlbp : decode 0x42000008#32 = .instr .tlbp := by decide

end Decoding

/-! ## Coprocessors that the core does not have -/

/-- An instruction whose meaning is an exception takes it, and with no hazard pending nothing refuses the entry. -/
theorem takes_of_exec_eq {i : Instr} {e : Exc} {s : State} (h : exec i s = takeException e s) :
    Takes (exec i s) e s ∧ (s.hazards = [] → exec i s = .next (raise e s)) :=
  ⟨h ▸ takes_takeException e s, fun hnone => h.trans (takeException_of_none e hnone)⟩

theorem cop1xUnit_eq : cop1xUnit = 1#2 ∨ cop1xUnit = 3#2 := by
  unfold cop1xUnit
  split
  · exact .inr rfl
  · exact .inl rfl

theorem raise_ce {s : State} (unit : BitVec 2) (h : s.cp0.dbg.dm = false) :
    (raise (.cpu unit) s).cp0.cause.ce = unit := by
  rw [raise_outside _ h]
  rfl

/-- Settles O51: each instruction is `takeException` of CpU with its unit, and nothing is looked at before it. -/
theorem absentCoprocessors : Obligations.AbsentCoprocessors := by
  unfold Obligations.AbsentCoprocessors
  refine ⟨fun bits base ft offset => ?words, fun bits base ft rd low cc b17 tf offset s => ⟨fun i hi => ?unit1,
    fun i hi => ?unit2⟩, ⟨cop1xUnit, cop1xUnit_eq, fun bits s => takes_of_exec_eq rfl⟩,
    fun unit s hdm => ⟨raise_ce unit hdm, raise_excCode (.cpu unit) hdm⟩⟩
  case words =>
    exact ⟨decode_cop1 bits, decode_cop2 bits, decode_cop1x bits, decode_lwc1 ft base offset, decode_ldc1 ft base offset,
      decode_swc1 ft base offset, decode_sdc1 ft base offset, decode_lwc2 ft base offset, decode_ldc2 ft base offset,
      decode_swc2 ft base offset, decode_sdc2 ft base offset⟩
  case unit1 =>
    have hall : ∀ i ∈ [Instr.cop1 bits, .lwc1 base ft offset, .ldc1 base ft offset, .swc1 base ft offset,
        .sdc1 base ft offset, .movci base cc b17 tf rd low], exec i s = takeException (.cpu 1#2) s := by
      simp only [List.forall_mem_cons]
      exact ⟨rfl, rfl, rfl, rfl, rfl, rfl, List.forall_mem_nil _⟩
    exact takes_of_exec_eq (hall i hi)
  case unit2 =>
    have hall : ∀ i ∈ [Instr.cop2 bits, .lwc2 base ft offset, .ldc2 base ft offset, .swc2 base ft offset,
        .sdc2 base ft offset], exec i s = takeException (.cpu 2#2) s := by
      simp only [List.forall_mem_cons]
      exact ⟨rfl, rfl, rfl, rfl, rfl, List.forall_mem_nil _⟩
    exact takes_of_exec_eq (hall i hi)

/-! ## The instructions and words that need Coprocessor 0 (R430) -/

/-- The Coprocessor 0 instructions, and CACHE. -/
inductive NeedsCop0 : Instr → Prop
  | mfc0 (rt rd : Reg) (sel : BitVec 3) : NeedsCop0 (.mfc0 rt rd sel)
  | mtc0 (rt rd : Reg) (sel : BitVec 3) : NeedsCop0 (.mtc0 rt rd sel)
  | di (rt : Reg) : NeedsCop0 (.di rt)
  | ei (rt : Reg) : NeedsCop0 (.ei rt)
  | rdpgpr (rt rd : Reg) : NeedsCop0 (.rdpgpr rt rd)
  | wrpgpr (rt rd : Reg) : NeedsCop0 (.wrpgpr rt rd)
  | eret : NeedsCop0 .eret
  | deret : NeedsCop0 .deret
  | wait (code : BitVec 19) : NeedsCop0 (.wait code)
  | tlbr : NeedsCop0 .tlbr
  | tlbwi : NeedsCop0 .tlbwi
  | tlbwr : NeedsCop0 .tlbwr
  | tlbp : NeedsCop0 .tlbp
  | cache (base op : Reg) (offset : BitVec 16) : NeedsCop0 (.cache base op offset)

/-- The meaning of each of them begins with the check of `withCop0`. -/
theorem NeedsCop0.exec_eq_withCop0 {i : Instr} (h : NeedsCop0 i) (s : State) : ∃ o, exec i s = withCop0 s o := by
  cases h <;> exact ⟨_, rfl⟩

/-- Where Coprocessor 0 is unusable, CpU is all that they do. -/
theorem NeedsCop0.exec_eq_takeException {i : Instr} (h : NeedsCop0 i) {s : State} (hu : s.cop0Usable = false) :
    exec i s = takeException (.cpu 0#2) s := by
  obtain ⟨o, ho⟩ := h.exec_eq_withCop0 s
  exact ho.trans (withCop0_unusable o hu)

theorem NeedsCop0.takes {i : Instr} (h : NeedsCop0 i) {s : State} (hu : s.cop0Usable = false) :
    Takes (exec i s) (.cpu 0#2) s := (takes_of_exec_eq (h.exec_eq_takeException hu)).1

/-- What an instruction reads of Coprocessor 0 matters only where it is usable: elsewhere the one hazard left is that of
the check. -/
theorem NeedsCop0.hazardSeen_eq_false {i : Instr} (h : NeedsCop0 i) {s : State} (hu : s.cop0Usable = false)
    (hh : cop0Hazard s = false) : hazardSeen i s = false := by
  cases h <;> simp [hazardSeen, hu, hh, eretUseHazard_eq_false hh]

/-- The decoded words whose execution begins with the check of Coprocessor 0. -/
inductive WordNeedsCop0 : Decoded → Prop
  | instr {i : Instr} (h : NeedsCop0 i) : WordNeedsCop0 (.instr i)
  | reserved : WordNeedsCop0 .reservedCop0
  | mustBeZero : WordNeedsCop0 .mustBeZeroCop0

theorem WordNeedsCop0.whenZeroCop0 (ok : Bool) {i : Instr} (h : NeedsCop0 i) : WordNeedsCop0 (whenZeroCop0 ok i) := by
  cases ok
  · exact .mustBeZero
  · exact .instr h

theorem wordNeedsCop0_decodeCo (w : Word) : WordNeedsCop0 (decodeCo w) := by
  unfold decodeCo
  split
  · exact .whenZeroCop0 _ .tlbr
  · exact .whenZeroCop0 _ .tlbwi
  · exact .whenZeroCop0 _ .tlbwr
  · exact .whenZeroCop0 _ .tlbp
  · exact .whenZeroCop0 _ .eret
  · exact .whenZeroCop0 _ .deret
  · exact .instr (.wait _)
  · exact .reserved

theorem wordNeedsCop0_decodeMfmc0 (w : Word) : WordNeedsCop0 (decodeMfmc0 w) := by
  have hpair : NeedsCop0 (if w.getLsbD 5 then .ei (rtOf w) else .di (rtOf w)) := by
    split
    · exact .ei _
    · exact .di _
  unfold decodeMfmc0
  split
  · exact .whenZeroCop0 _ hpair
  · exact .reserved

theorem wordNeedsCop0_decodeCop0 (w : Word) : WordNeedsCop0 (decodeCop0 w) := by
  unfold decodeCop0
  split
  · exact wordNeedsCop0_decodeCo w
  · split
    · exact .whenZeroCop0 _ (.mfc0 _ _ _)
    · exact .whenZeroCop0 _ (.mtc0 _ _ _)
    · exact .whenZeroCop0 _ (.rdpgpr _ _)
    · exact wordNeedsCop0_decodeMfmc0 w
    · exact .whenZeroCop0 _ (.wrpgpr _ _)
    · exact .reserved

/-- Every word with opcode COP0 or CACHE, whatever its other bits. -/
theorem wordNeedsCop0_decode {w : Word} (h : opcodeOf w = 0x10#6 ∨ opcodeOf w = 0x2F#6) : WordNeedsCop0 (decode w) := by
  obtain hcop0 | hcache := h
  · have hdecode : decode w = decodeCop0 w := by simp [decode, hcop0]
    exact hdecode ▸ wordNeedsCop0_decodeCop0 w
  · have hdecode : decode w = .instr (.cache (rsOf w) (rtOf w) (immOf w)) := by simp [decode, hcache]
    exact hdecode ▸ .instr (.cache _ _ _)

/-- Where Coprocessor 0 is unusable, and no pending write decides that, such a word is CpU, before the Reserved
Instruction check of R446. -/
theorem WordNeedsCop0.runDecoded_eq_takeException {d : Decoded} (h : WordNeedsCop0 d) {s : State}
    (hu : s.cop0Usable = false) (hh : cop0Hazard s = false) : runDecoded d s = takeException (.cpu 0#2) s := by
  cases h with
  | instr hi => simp [runDecoded, hi.hazardSeen_eq_false hu hh, hi.exec_eq_takeException hu]
  | reserved => simp [runDecoded, hh, withCop0_unusable _ hu]
  | mustBeZero => simp [runDecoded, hh, withCop0_unusable _ hu]

/-- User mode, bit by bit (60_exceptions.md R510). -/
theorem State.userMode_iff (s : State) : s.userMode = true ↔ s.cp0.status.um = true ∧ s.cp0.status.exl = false ∧
    s.cp0.status.erl = false ∧ s.cp0.dbg.dm = false := by
  simp only [State.userMode, inUserMode, Bool.and_eq_true, Bool.not_eq_true']
  tauto

/-- Settles O52: the instructions and the words that need Coprocessor 0 are CpU where it is unusable. -/
theorem coprocessor0Privilege : Obligations.Coprocessor0Privilege := by
  unfold Obligations.Coprocessor0Privilege
  intro s
  refine ⟨s.userMode_iff, s.cop0Usable_iff, fun hu rt rd base op sel code offset i hi => ?instructions,
    fun hu hh w hw => ?words⟩
  case instructions =>
    have hall : ∀ i ∈ [Instr.mfc0 rt rd sel, .mtc0 rt rd sel, .di rt, .ei rt, .rdpgpr rt rd, .wrpgpr rt rd, .eret, .deret,
        .wait code, .tlbr, .tlbwi, .tlbwr, .tlbp, .cache base op offset], NeedsCop0 i := by
      simp only [List.forall_mem_cons]
      exact ⟨.mfc0 _ _ _, .mtc0 _ _ _, .di _, .ei _, .rdpgpr _ _, .wrpgpr _ _, .eret, .deret, .wait _, .tlbr, .tlbwi,
        .tlbwr, .tlbp, .cache _ _ _, List.forall_mem_nil _⟩
    exact (hall i hi).takes hu
  case words =>
    rw [(wordNeedsCop0_decode hw).runDecoded_eq_takeException hu hh]
    exact takes_takeException (.cpu 0#2) s

/-- Settles O58: behind the check of Coprocessor 0 each of the four is the refusal. -/
theorem tlbInstructionsRefused : Obligations.TlbInstructionsRefused := by
  unfold Obligations.TlbInstructionsRefused
  refine ⟨decode_tlbr, decode_tlbwi, decode_tlbwr, decode_tlbp, fun s i hi => ?outcome⟩
  have hall : ∀ i ∈ [Instr.tlbr, .tlbwi, .tlbwr, .tlbp], NeedsCop0 i ∧ exec i s = withCop0 s (.refused .noTlb) := by
    simp only [List.forall_mem_cons]
    exact ⟨⟨.tlbr, rfl⟩, ⟨.tlbwi, rfl⟩, ⟨.tlbwr, rfl⟩, ⟨.tlbp, rfl⟩, List.forall_mem_nil _⟩
  obtain ⟨hneeds, hexec⟩ := hall i hi
  exact ⟨fun hu => hexec.trans (withCop0_usable _ hu), hneeds.takes⟩

end Sys2Proof.Machine
end

section
/-!
The effects of ERET, DERET, DI, EI, RDPGPR and WRPGPR where Coprocessor 0 is usable (44_coprocessor.md R433 to R438), and
O19 and O56 assembled from them.
-/
namespace Sys2Proof.Machine

open Sys2Proof

/-! ## Returning from an exception and from Debug mode (R437, R438) -/

theorem exec_eret {s : State} (hu : s.cop0Usable = true) :
    exec .eret s = outsideSlot s (.next (returnFromException s)) := withCop0_usable _ hu

theorem exec_deret {s : State} (hu : s.cop0Usable = true) :
    exec .deret s = outsideSlot s (if s.cp0.dbg.dm then .next (returnFromDebug s) else takeException .ri s) :=
  withCop0_usable _ hu

/-- In a delay slot whatever stands outside it is refused (42_jump_branch.md R343). -/
theorem outsideSlot_of_isSome {s : State} (o : Out) (h : s.delaySlot.isSome = true) :
    outsideSlot s o = .refused .controlInDelaySlot := if_pos h

/-- ERET with ERL set clears ERL and continues at ErrorEPC. -/
theorem returnFromException_of_erl {s : State} (h : s.cp0.status.erl = true) :
    (returnFromException s).cp0 = { s.cp0 with status := { s.cp0.status with erl := false } } ∧
      (returnFromException s).pc = jumpAddress s.cp0.errorEpc ∧
      (returnFromException s).isaMode = jumpIsa s.cp0.errorEpc := by
  simp [returnFromException, h, State.fullBarrier]

/-- ERET with ERL clear clears EXL, brings back the previous set where BEV is clear, and continues at EPC. -/
theorem returnFromException_of_not_erl {s : State} (h : s.cp0.status.erl = false) :
    (returnFromException s).cp0 = { s.cp0 with
        status := { s.cp0.status with exl := false }
        srs := { s.cp0.srs with css := if s.cp0.status.bev = true then s.cp0.srs.css else s.cp0.srs.pss } } ∧
      (returnFromException s).pc = jumpAddress s.cp0.epc ∧ (returnFromException s).isaMode = jumpIsa s.cp0.epc := by
  cases hbev : s.cp0.status.bev <;> simp [returnFromException, h, hbev, State.fullBarrier]

/-- What the two returns have in common: from `s` with Coprocessor 0 and LLbit changed, every hazard is cleared, execution
continues elsewhere, and no data changes. -/
theorem barrier_redirect_frame {s t : State} {c : Cp0} {llbit : Bool} {target : Word} {isa : Bool}
    (ht : t = { s with cp0 := c, llbit := llbit }.fullBarrier.redirect target isa) :
    t.llbit = llbit ∧ t.delaySlot = none ∧ t.hazards = [] ∧ t.staleStatus = [] ∧
      (∀ a, codeStateAt t.codeWords a ≠ .synced) ∧ t.waiting = s.waiting ∧ KeepsData s t := by
  subst ht
  exact ⟨rfl, rfl, rfl, rfl, codeStateAt_settleCode_ne s.codeWords, rfl, State.regOf_congr rfl, rfl, rfl, fun _ => rfl,
    rfl, rfl, rfl, rfl⟩

/-- Settles O19: outside a delay slot each return is the state its rule gives; `jumpAddress` and `jumpIsa` are the address
and the mode a saved program counter names. -/
theorem exceptionReturns : Obligations.ExceptionReturns := by
  unfold Obligations.ExceptionReturns
  refine ⟨decode_eret, decode_deret, fun s => ⟨fun hu => ⟨NeedsCop0.eret.takes hu, NeedsCop0.deret.takes hu⟩,
    fun hu hslot => ?slot, fun hu hslot => ⟨?eret, fun hdm => ?reserved, fun hdm => ?deret⟩⟩⟩
  case slot =>
    exact ⟨(exec_eret hu).trans (outsideSlot_of_isSome _ hslot), (exec_deret hu).trans (outsideSlot_of_isSome _ hslot)⟩
  case eret =>
    exact ⟨_, (exec_eret hu).trans (outsideSlot_of_none _ hslot), returnFromException_of_erl,
      returnFromException_of_not_erl, barrier_redirect_frame rfl⟩
  case reserved =>
    rw [exec_deret hu, outsideSlot_of_none _ hslot, hdm]
    exact takes_takeException .ri s
  case deret =>
    have hexec : exec .deret s = .next (returnFromDebug s) := by
      rw [exec_deret hu, outsideSlot_of_none _ hslot, if_pos hdm]
    exact ⟨_, hexec, rfl, rfl, rfl, barrier_redirect_frame rfl⟩

/-! ## Writing Coprocessor 0 after the instruction is complete -/

/-- What a register write leaves unchanged, a write of Coprocessor 0 after it leaves unchanged too. -/
theorem WritesReg.cp0Frame_withCp0 {r : Reg} {v : Word} {s u : State} (h : WritesReg r v s u) (c : Cp0) :
    Cp0Frame s (u.withCp0 c) where
  acc := h.acc
  llbit := h.system.llbit
  waiting := h.system.waiting
  mem := h.system.mem
  devRegs := h.system.devRegs
  intReq := h.system.intReq
  schedule := h.system.schedule
  cfg := h.system.cfg
  pc := h.moves.pc
  isaMode := h.moves.isaMode
  delaySlot := h.moves.delaySlot
  code := h.code

/-- Where IE changes from `s` to `t` the hazard is recorded, and nowhere else. -/
theorem noteInterruptEnable_of_ne {s t : State} (h : s.cp0.status.ie ≠ t.cp0.status.ie) :
    noteInterruptEnable s t = { t with hazards := hazardEntry .ie .status 1 s :: t.hazards } := if_neg h

theorem noteInterruptEnable_of_eq {s t : State} (h : s.cp0.status.ie = t.cp0.status.ie) : noteInterruptEnable s t = t :=
  if_pos h

theorem Cp0Frame.noteInterruptEnable {s t : State} (h : Cp0Frame s t) : Cp0Frame s (noteInterruptEnable s t) := by
  by_cases hie : s.cp0.status.ie = t.cp0.status.ie
  · rwa [noteInterruptEnable_of_eq hie]
  · rw [noteInterruptEnable_of_ne hie]
    exact ⟨h.acc, h.llbit, h.waiting, h.mem, h.devRegs, h.intReq, h.schedule, h.cfg, h.pc, h.isaMode, h.delaySlot, h.code⟩

/-! ## DI and EI (R433, R434) -/

/-- The state after DI (`b` false) or EI (`b` true). -/
def State.setInterruptEnable (s : State) (rt : Reg) (b : Bool) : State :=
  noteInterruptEnable s ((s.setReg rt (s.cp0Word .status)).advance.withCp0 (s.cp0.withIe b))

theorem exec_di (rt : Reg) {s : State} (hu : s.cop0Usable = true) :
    exec (.di rt) s = .next (s.setInterruptEnable rt false) := withCop0_usable _ hu

theorem exec_ei (rt : Reg) {s : State} (hu : s.cop0Usable = true) :
    exec (.ei rt) s = .next (s.setInterruptEnable rt true) := withCop0_usable _ hu

theorem State.setInterruptEnable_cp0 (s : State) (rt : Reg) (b : Bool) :
    (s.setInterruptEnable rt b).cp0 = s.cp0.withIe b := by
  simp [State.setInterruptEnable]

theorem State.setInterruptEnable_regs (s : State) (rt : Reg) (b : Bool) :
    OnlyReg s.cp0.srs.css rt (s.cp0Word .status) s (s.setInterruptEnable rt b) := by
  have hfile : (s.setInterruptEnable rt b).gprs = (s.setReg rt (s.cp0Word .status)).advance.gprs := by
    simp [State.setInterruptEnable]
  obtain ⟨hwritten, hothers⟩ := (WritesReg.setReg_advance s rt (s.cp0Word .status)).regs
  exact ⟨(State.regOf_congr hfile _ _).trans hwritten,
    fun set' r hne => (State.regOf_congr hfile _ _).trans (hothers set' r hne)⟩

theorem State.setInterruptEnable_frame (s : State) (rt : Reg) (b : Bool) :
    Cp0Frame s (s.setInterruptEnable rt b) :=
  ((WritesReg.setReg_advance s rt (s.cp0Word .status)).cp0Frame_withCp0 _).noteInterruptEnable

/-- The hazard that DI and EI record where they change IE (70_reset_and_hazards.md R571). -/
theorem State.setInterruptEnable_hazard {s : State} (rt : Reg) {b : Bool} (h : s.cp0.status.ie = !b) :
    ∃ x ∈ (s.setInterruptEnable rt b).hazards, x.row = .ie ∧ x.left = 1 ∧ x.old.status.ie = !b := by
  have hchanged : s.cp0.status.ie ≠ b := h ▸ Bool.not_ne_self b
  rw [State.setInterruptEnable, noteInterruptEnable_of_ne hchanged]
  exact ⟨_, List.mem_cons_self, rfl, rfl, h⟩

/-- All that DI or EI does. -/
theorem completes_setInterruptEnable {i : Instr} {s : State} {rt : Reg} {b : Bool}
    (h : exec i s = .next (s.setInterruptEnable rt b)) : Completes i s fun t =>
      OnlyReg s.cp0.srs.css rt (s.cp0Word .status) s t ∧
        t.cp0 = { s.cp0 with status := { s.cp0.status with ie := b } } ∧ Cp0Frame s t ∧
        (s.cp0.status.ie = !b → ∃ x ∈ t.hazards, x.row = .ie ∧ x.left = 1 ∧ x.old.status.ie = !b) :=
  ⟨_, h, s.setInterruptEnable_regs rt b, s.setInterruptEnable_cp0 rt b, s.setInterruptEnable_frame rt b,
    State.setInterruptEnable_hazard rt⟩

/-! ## WRPGPR (R436) -/

/-- A write to a register of any set that completes leaves all but that register unchanged. -/
theorem setRegOf_advance_frame {s t : State} {set : SetNum} {r : Reg} {v : Word}
    (ht : t = (s.setRegOf set r v).advance) : OnlyReg set r v s t ∧ SameAcc s t ∧ SystemSame s t ∧ MovesOn s t ∧
      t.codeWords = s.advance.codeWords := by
  subst ht
  obtain ⟨hwritten, hothers⟩ := OnlyReg.setRegOf s set r v
  refine ⟨⟨?_, fun set' r' hne => ?_⟩, ⟨by simp, by simp, by simp⟩, by constructor <;> simp,
    MovesOn.advance_of_eq (by simp) (by simp) (by simp) (by simp) (by simp),
    State.advance_codeWords_of_eq (by simp) (by simp)⟩
  · rw [State.regOf_advance, hwritten]
  · rw [State.regOf_advance, hothers set' r' hne]

/-- Settles O56: DI and EI are one operation on IE, RDPGPR and WRPGPR each one register write. -/
theorem interruptEnableAndSetMoves : Obligations.InterruptEnableAndSetMoves := by
  unfold Obligations.InterruptEnableAndSetMoves
  intro rt rd s
  refine ⟨decode_di rt, decode_ei rt, decode_rdpgpr rt rd, decode_wrpgpr rt rd, fun hu i hi => ?unusable,
    fun hu => ⟨completes_setInterruptEnable (exec_di rt hu), completes_setInterruptEnable (exec_ei rt hu),
      .of_completeReg (withCop0_usable _ hu), ⟨_, withCop0_usable _ hu, setRegOf_advance_frame rfl⟩⟩⟩
  case unusable =>
    have hall : ∀ i ∈ [Instr.di rt, .ei rt, .rdpgpr rt rd, .wrpgpr rt rd], NeedsCop0 i := by
      simp only [List.forall_mem_cons]
      exact ⟨.di _, .ei _, .rdpgpr _ _, .wrpgpr _ _, List.forall_mem_nil _⟩
    exact (hall i hi).takes hu

end Sys2Proof.Machine
end

section
/-!
Where a step ends without an instruction's meaning: a reset and an NMI (60_exceptions.md R507, 70_reset_and_hazards.md R551,
R556, R557), the event interrupt (60_exceptions.md R496, R500) and a fetch that cannot be made (20_memory.md R140), each in
MIPS32 mode and, refused, in MIPS16e mode (45_mips16e.md R465, R466); O11, O12, O16 and O17 assembled from them.
-/
namespace Sys2Proof.Machine

open Sys2Proof

/-! ## One step by its schedule (log entry 11) -/

theorem step_of_quiet {s : State} (h : s.schedule = []) : step s = quietStep s := by
  simp only [step, stepOnce, h]

theorem step_of_event {s : State} {e : EnvEvent} {es : List EnvEvent} (h : s.schedule = e :: es) :
    step s = envStep e { s with schedule := es } := by
  simp only [step, stepOnce, h]

theorem mips32Only_of_mips16e {s : State} (o : Out) (h : s.isaMode = true) : mips32Only s o = .refused .mips16e :=
  if_pos h

theorem mips32Only_of_mips32 {s : State} (o : Out) (h : s.isaMode = false) : mips32Only s o = o := by
  simp [mips32Only, h]

/-- A single step that is due comes before what the core would do (60_exceptions.md R492, R529). -/
theorem whenRunning_singleStep {s : State} (o : Out) (h : s.isaMode = false) (hdue : singleStepDue s = true) :
    whenRunning s o = .refused .debugModeEntry := by
  rw [whenRunning, mips32Only_of_mips32 _ h, if_pos hdue]

/-! ## Reset and NMI -/

/-- Both entries change Coprocessor 0, end a wait and continue elsewhere: no data changes. -/
theorem KeepsData.redirect (s : State) (c : Cp0) (target : Word) (isa : Bool) :
    KeepsData s ({ s with waiting := false, cp0 := c }.redirect target isa) :=
  ⟨State.regOf_congr rfl, rfl, rfl, fun _ => rfl, rfl, rfl, rfl, rfl⟩

/-- In MIPS32 mode bit 0 of the saved address is clear (60_exceptions.md R481). -/
theorem State.savedPc_of_mips32 {s : State} (h : s.isaMode = false) :
    s.savedPc = s.restartPc.extractLsb' 1 31 ++ 0#1 := by
  rw [State.savedPc, h]
  rfl

/-- R507 on Coprocessor 0: ErrorEPC and four bits of Status. -/
theorem enterNmi_cp0 {s : State} (h : s.isaMode = false) :
    (enterNmi s).cp0 = { s.cp0 with
      errorEpc := s.restartPc.extractLsb' 1 31 ++ 0#1
      status := { s.cp0.status with erl := true, nmi := true, bev := true, sr := false } } := by
  rw [← State.savedPc_of_mips32 h]
  rfl

theorem envStep_reset {s : State} (h : s.isaMode = false) (hboot : s.cfg.ejtagBoot = false) :
    envStep .reset s = .next (enterReset s) := by
  rw [envStep, mips32Only_of_mips32 _ h]
  simp [hboot]

/-- Settles O11: the event is refused, or it is `enterReset`; but for ErrorEPC each clause reads a field of `resetCp0`, which is
its definition. -/
theorem resetEventForcesAndKeeps : Obligations.ResetEventForcesAndKeeps := by
  unfold Obligations.ResetEventForcesAndKeeps
  intro s es hreset
  rw [step_of_event hreset]
  refine ⟨fun hisa => mips32Only_of_mips16e _ hisa, fun hisa hboot => ?ejtagBoot, fun hisa hboot => ?enters⟩
  case ejtagBoot =>
    exact (mips32Only_of_mips32 _ hisa).trans (if_pos hboot)
  case enters =>
    exact ⟨_, envStep_reset hisa hboot, KeepsData.redirect _ _ _ _, rfl, rfl, rfl, rfl, rfl, rfl, rfl,
      fun _ hslot => State.savedPc_of_some hslot, fun hslot => State.savedPc_of_none hslot,
      rfl, rfl, rfl, rfl, rfl, rfl, rfl, rfl, rfl, rfl, rfl, rfl, rfl, rfl, rfl, rfl, rfl, rfl, rfl, rfl⟩

/-- Settles O12: the event is refused, or it is `enterNmi`. -/
theorem nonMaskableInterruptEntry : Obligations.NonMaskableInterruptEntry := by
  unfold Obligations.NonMaskableInterruptEntry
  intro s es hnmi
  rw [step_of_event hnmi, envStep]
  refine ⟨whenRunning_mips16e _, whenRunning_singleStep _, fun hisa hstep => ?enters⟩
  case enters =>
    exact ⟨_, whenRunning_of _ hisa hstep, enterNmi_cp0 hisa, rfl, rfl, rfl, rfl, rfl, rfl, rfl,
      KeepsData.redirect _ _ _ _⟩

/-! ## Interrupts -/

theorem takeableUnder_iff (r : IntReq) (c : Cp0) :
    takeableUnder r c = true ↔ c.status.ie = true ∧ c.status.exl = false ∧ c.status.erl = false ∧ c.dbg.dm = false ∧
      c.status.ipl.toNat < r.ripl.toNat := by
  simp [takeableUnder, and_assoc]

/-- The new value of everything may be seen, so an interrupt that is takeable may be taken. -/
theorem State.interruptPossible_of_takeable {s : State} (h : s.interruptTakeable = true) : s.interruptPossible = true :=
  List.any_eq_true.mpr ⟨s.cp0, s.ticked.cp0_mem_views, h⟩

/-- The step of the scoreboard creates no hazard: one after it has the row of one before it. -/
theorem exists_row_of_mem_tickHazards {l : List Hazard} {x : Hazard} (h : x ∈ tickHazards l) :
    ∃ y ∈ l, y.row = x.row := by
  simp only [tickHazards, List.mem_map, List.mem_filter] at h
  obtain ⟨y, ⟨hy, -⟩, rfl⟩ := h
  exact ⟨y, hy, rfl⟩

/-- Where no single hazard shows an instruction another value of `f`, all of them together do not. -/
theorem viewsThrough_eq {α : Type} {f : Cp0 → α} {a : α} {l : List Hazard}
    (hview : ∀ h ∈ l, ∀ v, ∀ c ∈ h.view v, f c = f v) {vs : List Cp0} (hvs : ∀ c ∈ vs, f c = a) :
    ∀ c ∈ l.foldl (fun vs h => vs ++ vs.flatMap h.view) vs, f c = a := by
  induction l generalizing vs with
  | nil => exact hvs
  | cons x l ih =>
    refine ih (fun h hl => hview h (List.mem_cons_of_mem _ hl)) fun c hc => ?_
    obtain hc | hc := List.mem_append.mp hc
    · exact hvs c hc
    · obtain ⟨v, hv, hcv⟩ := List.mem_flatMap.mp hc
      exact (hview x List.mem_cons_self v c hcv).trans (hvs v hv)

/-- Of the rows of Table 2-1 only that of IE and that of any register let an interrupt see another Status or Debug. -/
theorem takeableUnder_view (r : IntReq) {h : Hazard} (hrow : h.row ≠ .ie ∧ h.row ≠ .other) :
    ∀ v, ∀ c ∈ h.view v, takeableUnder r c = takeableUnder r v := by
  obtain ⟨hie, hother⟩ := hrow
  intro v c hc
  unfold Hazard.view at hc
  split at hc
  · rw [List.mem_singleton.mp hc]
    rfl
  · next heq => exact absurd heq hie
  · next heq => exact absurd heq hother
  all_goals exact absurd hc List.not_mem_nil

/-- An interrupt that is not takeable may be taken only under the old value of a write whose spacing is not over. -/
theorem State.interruptPossible_of_not_takeable {s : State} (h : s.interruptTakeable = false)
    (hrows : ∀ x ∈ s.hazards, x.row ≠ .ie ∧ x.row ≠ .other) : s.interruptPossible = false := by
  have hticked : ∀ x ∈ tickHazards s.hazards, x.row ≠ .ie ∧ x.row ≠ .other := by
    intro x hx
    obtain ⟨y, hy, hrow⟩ := exists_row_of_mem_tickHazards hx
    exact hrow ▸ hrows y hy
  have hseen : ∀ c ∈ s.ticked.views, takeableUnder s.intReq c = false :=
    viewsThrough_eq (fun x hx => takeableUnder_view s.intReq (hticked x hx)) (List.forall_mem_singleton.mpr h)
  simpa [State.interruptPossible] using hseen

/-- The event takes an interrupt that may be taken, where the core runs. -/
theorem step_of_interruptPossible {s : State} {es : List EnvEvent} (hevent : s.schedule = .interrupt :: es)
    (h : s.interruptPossible = true) : step s = whenRunning s (takeInterrupt { s with schedule := es }) :=
  (step_of_event hevent).trans (if_pos h)

theorem step_of_not_interruptPossible {s : State} {es : List EnvEvent} (hevent : s.schedule = .interrupt :: es)
    (h : s.interruptPossible = false) : step s = .next { s with schedule := es } :=
  (step_of_event hevent).trans (if_neg (ne_true_of_eq_false h))

/-- Settles O16: R496 field by field, and the event where an interrupt may be taken and where none may. -/
theorem interruptTakenExactlyWhenEnabled : Obligations.InterruptTakenExactlyWhenEnabled := by
  unfold Obligations.InterruptTakenExactlyWhenEnabled
  refine fun s => ⟨takeableUnder_iff _ _, State.interruptPossible_of_takeable, fun es hevent =>
    ⟨fun hisa htakeable => ?mips16e, fun hisa hstep hpossible => ?taken, fun htakeable hrows => ?nothing⟩⟩
  case mips16e =>
    rw [step_of_interruptPossible hevent (State.interruptPossible_of_takeable htakeable), whenRunning_mips16e _ hisa]
  case taken =>
    rw [step_of_interruptPossible hevent hpossible, whenRunning_of _ hisa hstep]
    exact takes_takeException .int _
  case nothing =>
    exact step_of_not_interruptPossible hevent (State.interruptPossible_of_not_takeable htakeable hrows)

/-! ## Fetches that cannot be made (20_memory.md R140) -/

/-- Where nothing comes before the instruction, a quiet step runs it, the wait ended and the scoreboard's step made. -/
theorem step_eq_runInstruction {s : State} (hquiet : s.schedule = []) (hisa : s.isaMode = false)
    (hstep : singleStepDue s = false) (hint : s.interruptTakeable = false) (hib : s.cp0.dbg.ibusep = false)
    (hdb : s.cp0.dbg.dbusep = false) : step s = runInstruction { s with waiting := false }.ticked := by
  rw [step_of_quiet hquiet, quietStep, whenRunning_of _ hisa hstep]
  simp [hint, cpuStep, coreStep, hib, hdb]

theorem runInstruction_of_stop {s : State} {o : Out} (h : fetch s = .stop o) : runInstruction s = o := by
  simp only [runInstruction, h]

theorem fetch_of_misaligned {s : State} (h : s.pc.toNat % 4 ≠ 0) : fetch s = .stop (takeException (.adel s.pc) s) :=
  if_pos h

theorem fetch_of_kernelAddress {s : State} (haligned : s.pc.toNat % 4 = 0) (hhazard : fetchHazard s = false)
    (huser : s.userMode = true) (hmsb : s.pc.msb = true) : fetch s = .stop (takeException (.adel s.pc) s) := by
  simp [fetch, haligned, hhazard, huser, hmsb]

theorem fetch_of_absent {s : State} (haligned : s.pc.toNat % 4 = 0) (hhazard : fetchHazard s = false)
    (hpriv : s.userMode = true → s.pc.msb = false) (hdm : s.cp0.dbg.dm = false)
    (htarget : fetchTarget s.cfg (wordAddr (translate s.cp0.status.erl s.pc)) = .absent) :
    fetch s = .stop (fetchBusError s) := by
  have hpriv' : (s.userMode && s.pc.msb) = false := by simpa using hpriv
  simp [fetch, haligned, hhazard, hpriv', hdm, htarget]

theorem takes_fetchBusError {s : State} (h : s.cfg.busErrorMode = .precise) : Takes (fetchBusError s) .ibe s := by
  have heq : fetchBusError s = takeException .ibe s := by simp only [fetchBusError, h]
  exact heq ▸ takes_takeException .ibe s

theorem fetchBusError_of_fault {s : State} (h : s.cfg.busErrorMode = .fault) :
    fetchBusError s = .fault (.fetchBusError s.pc) := by
  simp only [fetchBusError, h]

/-- Settles O17: the step is the fetch in `u`, which stops as each clause says. -/
theorem failingFetches : Obligations.FailingFetches := by
  unfold Obligations.FailingFetches
  refine fun s hquiet => ⟨fun hisa => ?mips16e, fun hisa hstep hint hib hdb u hu => ?mips32⟩
  case mips16e =>
    rw [step_of_quiet hquiet]
    exact whenRunning_mips16e _ hisa
  case mips32 =>
    have hrun : step s = runInstruction u := hu ▸ step_eq_runInstruction hquiet hisa hstep hint hib hdb
    have hstop {o : Out} (hfetch : fetch u = .stop o) : step s = o := hrun.trans (runInstruction_of_stop hfetch)
    subst hu
    refine ⟨fun hmis => ?misaligned, fun haligned hhazard =>
      ⟨fun huser hmsb => ?kernelAddress, fun hpriv hdm htarget => ?absent⟩⟩
    case misaligned =>
      rw [hstop (fetch_of_misaligned hmis)]
      exact takes_takeException _ _
    case kernelAddress =>
      rw [hstop (fetch_of_kernelAddress haligned hhazard huser hmsb)]
      exact takes_takeException _ _
    case absent =>
      rw [hstop (fetch_of_absent haligned hhazard hpriv hdm htarget)]
      exact ⟨fun hmode => takes_fetchBusError hmode, fun hmode => fetchBusError_of_fault hmode⟩

end Sys2Proof.Machine
end

section
/-!
The event CountTick (60_exceptions.md R520, R521) and the entry of an exception outside Debug mode (60_exceptions.md R480 to
R488): one rule per part of Coprocessor 0 it writes, and the vector; O13 and O14 assembled from them.
-/
namespace Sys2Proof.Machine

open Sys2Proof

/-! ## The core timer (R520, R521) -/

/-- Count stands while Cause.DC is set, and in Debug mode while COUNTDM is clear. -/
theorem countTick_of_stopped {s : State}
    (h : s.cp0.cause.dc = true ∨ (s.cp0.dbg.dm = true ∧ s.cp0.dbg.countdm = false)) : countTick s = s :=
  if_pos (by simpa using h)

theorem countTick_of_counting {s : State} (hdc : s.cp0.cause.dc = false)
    (hdm : ¬(s.cp0.dbg.dm = true ∧ s.cp0.dbg.countdm = false)) :
    countTick s = { s with
      cp0 := { s.cp0 with
        count := s.cp0.count + 1#32
        cause := { s.cp0.cause with ti := s.cp0.cause.ti || s.cp0.count + 1#32 == s.cp0.compare } } } :=
  if_neg (by simpa [hdc] using hdm)

/-- Settles O13: the event is `countTick`, which is one of two states. -/
theorem countTickAdvancesTheTimer : Obligations.CountTickAdvancesTheTimer := by
  unfold Obligations.CountTickAdvancesTheTimer
  intro s es htick
  rw [step_of_event htick]
  refine ⟨_, rfl, fun hstopped => countTick_of_stopped hstopped, fun hdc hdm => ?counting⟩
  case counting =>
    rw [countTick_of_counting (s := { s with schedule := es }) hdc hdm]
    refine ⟨BitVec.toNat_add _ _, fun (hmatch : s.cp0.count + 1#32 = s.cp0.compare) => ?hit,
      fun (hmatch : s.cp0.count + 1#32 ≠ s.cp0.compare) => ?miss, rfl⟩
    case hit => simp [hmatch]
    case miss => simp [hmatch]

/-! ## What the entry of an exception writes (R480 to R484) -/

theorem raise_cp0 {s : State} (e : Exc) (h : s.cp0.dbg.dm = false) : (raise e s).cp0 = exceptionCp0 e s := by
  rw [raise_outside e h, enterException_cp0]

/-- Only the pending bit of the bus error that is taken is cleared (10_state.md R73). -/
theorem Exc.clearPending_eq (e : Exc) (d : Debug) :
    e.clearPending d = { d with
      ibusep := d.ibusep && decide (e ≠ .ibe)
      dbusep := d.dbusep && decide (e ≠ .dbe) } := by
  cases e <;> simp [Exc.clearPending]

/-- Every field of Coprocessor 0 that the entry writes. -/
theorem exceptionCp0_eq (e : Exc) (s : State) :
    exceptionCp0 e s = { s.cp0 with
      epc := (exceptionCp0 e s).epc
      badVAddr := (exceptionCp0 e s).badVAddr
      srs := (exceptionCp0 e s).srs
      status := { s.cp0.status with exl := true }
      cause := { s.cp0.cause with
        bd := (exceptionCause e s).bd
        ce := e.causeCE s.freeIdx
        excCode := e.code }
      dbg := { s.cp0.dbg with
        ibusep := s.cp0.dbg.ibusep && decide (e ≠ .ibe)
        dbusep := s.cp0.dbg.dbusep && decide (e ≠ .dbe) } } := by
  rw [← Exc.clearPending_eq]
  rfl

theorem exceptionCause_bd_of_not_exl {s : State} (e : Exc) (h : s.cp0.status.exl = false) :
    (exceptionCause e s).bd = s.delaySlot.isSome := by
  simp [exceptionCause, h, State.inDelaySlot]

theorem exceptionCause_bd_of_exl {s : State} (e : Exc) (h : s.cp0.status.exl = true) :
    (exceptionCause e s).bd = s.cp0.cause.bd := by
  simp [exceptionCause, h]

theorem exceptionCp0_epc_of_exl {s : State} (e : Exc) (h : s.cp0.status.exl = true) :
    (exceptionCp0 e s).epc = s.cp0.epc := if_pos h

theorem exceptionCp0_srs (e : Exc) (s : State) : (exceptionCp0 e s).srs = exceptionSets e s.cp0 s.intReq := rfl

theorem vectoredInt_iff (e : Exc) (c : Cp0) : vectoredInt e c = true ↔ e = .int ∧ c.cause.iv = true := by
  simp [vectoredInt]

/-- R484: with EXL, BEV and ERL clear the current set is saved and a new one is current. -/
theorem exceptionSets_of_clear {c : Cp0} (e : Exc) (r : IntReq) (hexl : c.status.exl = false)
    (hbev : c.status.bev = false) (herl : c.status.erl = false) :
    exceptionSets e c r = { c.srs with
      pss := c.srs.css
      css := if e = .int ∧ c.cause.iv = true ∧ c.vs ≠ 0#5 then r.eicss else c.srs.ess } := by
  simp [exceptionSets, entrySet, hexl, hbev, herl, vectoredInt_iff, and_assoc]

theorem exceptionSets_of_set {c : Cp0} (e : Exc) (r : IntReq)
    (h : c.status.exl = true ∨ c.status.bev = true ∨ c.status.erl = true) : exceptionSets e c r = c.srs := by
  have hnone : entrySet e c r = none := if_neg (by obtain h | h | h := h <;> simp [h])
  rw [exceptionSets, hnone]

theorem Exc.badVAddr_of_addressError {e : Exc} {va : Word} (old : Word) (h : e = .adel va ∨ e = .ades va) :
    e.badVAddr old = va := by
  obtain rfl | rfl := h <;> rfl

theorem Exc.badVAddr_of_not_addressError {e : Exc} (old : Word) (h : ∀ va, e ≠ .adel va ∧ e ≠ .ades va) :
    e.badVAddr old = old := by
  cases e with
  | adel va => exact absurd rfl (h va).1
  | ades va => exact absurd rfl (h va).2
  | _ => rfl

/-! ## The vector (R486 to R488) -/

/-- The low 12 bits of Ebase read 0, so masking them changes nothing. -/
theorem State.ebase_and_mask (s : State) : s.cp0Word .ebase &&& 0xFFFFF000#32 = 0b10#2 ++ s.cp0.ebase ++ 0x000#12 := by
  have hmask : 0xFFFFF000#32 = BitVec.allOnes 20 ++ 0x000#12 := rfl
  rw [State.cp0Word, hmask, BitVec.and_append, BitVec.and_allOnes, BitVec.and_self]

theorem exceptionBase_eq (s : State) : exceptionBase s.cp0 =
    if s.cp0.status.bev = true then 0xBFC00200#32 else s.cp0Word .ebase &&& 0xFFFFF000#32 := by
  rw [State.ebase_and_mask, exceptionBase]

/-- The products of R488 as numbers: the arithmetic of words is that of numbers modulo 2^32. -/
theorem vectorSpacing_eq_ofNat (v : BitVec 6) (vs : BitVec 5) :
    v.zeroExtend 32 * (vs.zeroExtend 32 * 32#32) = BitVec.ofNat 32 (v.toNat * (vs.toNat * 32)) := by
  simp only [BitVec.ofNat_mul, BitVec.ofNat_toNat, BitVec.zeroExtend_eq_setWidth]

theorem exceptionOffset_eq (e : Exc) (c : Cp0) (r : IntReq) : exceptionOffset e c r =
    if c.status.exl = false ∧ e = .int ∧ c.cause.iv = true then
      (if c.status.bev = false then 0x200#32 + BitVec.ofNat 32 (r.vector.toNat * (c.vs.toNat * 32)) else 0x200#32)
    else 0x180#32 := by
  rw [exceptionOffset, vectorSpacing_eq_ofNat]
  cases hbev : c.status.bev <;> simp [vectoredInt_iff]

/-- Settles O14: each clause is the rule of one part of the entry. -/
theorem exceptionEntry : Obligations.ExceptionEntry := by
  unfold Obligations.ExceptionEntry
  intro e s hdm
  have hcp0 := raise_cp0 e hdm
  refine ⟨⟨(exceptionCause e s).bd, e.causeCE s.freeIdx, ?cp0, ?unit, exceptionCause_bd_of_not_exl e,
    exceptionCause_bd_of_exl e⟩, fun hexl => ⟨fun hslot => ?address, fun d hslot => ?branch, fun hbev herl => ?sets⟩,
    fun hset => ?setsKept, fun hexl => ?epcKept, fun va he => ?badVAddr, fun he => ?badVAddrKept, ?vector, ?isaMode,
    raise_delaySlot e s, EntryFrame.raise e s⟩
  case cp0 => rw [hcp0]; exact exceptionCp0_eq e s
  case unit => rintro unit rfl; rfl
  case address => rw [raise_epc e hdm hexl, State.savedPc_of_none hslot]
  case branch => rw [raise_epc e hdm hexl, State.savedPc_of_some hslot]
  case sets =>
    rw [hcp0, exceptionCp0_srs, exceptionSets_of_clear e s.intReq hexl hbev herl]
    exact ⟨rfl, rfl, rfl⟩
  case setsKept => rw [hcp0, exceptionCp0_srs, exceptionSets_of_set e s.intReq hset]
  case epcKept => rw [hcp0, exceptionCp0_epc_of_exl e hexl]
  case badVAddr => rw [hcp0]; exact Exc.badVAddr_of_addressError _ he
  case badVAddrKept => rw [hcp0]; exact Exc.badVAddr_of_not_addressError _ he
  case vector => rw [raise_outside e hdm, enterException_pc, exceptionBase_eq, exceptionOffset_eq]
  case isaMode => rw [raise_outside e hdm]; rfl

end Sys2Proof.Machine
end

section
/-!
Where execution continues after a reset and an NMI (60_exceptions.md R507, 70_reset_and_hazards.md R553): the vector, its
physical address and what the map of the reset state holds there, the two entries, and O9 assembled from them.
-/
namespace Sys2Proof.Machine

open Sys2Proof

/-! ## The vector and what is there (20_memory.md R129, R131, R133) -/

/-- The vector is in kseg1, so Status.ERL does not matter to its translation. -/
theorem translate_resetVector (erl : Bool) : translate erl resetVector = 0x1FC00000#32 :=
  BitVec.eq_of_toNat_eq (toNat_translate_kseg1 erl (by decide) (by decide))

/-- The first region that holds an address decides. -/
theorem findTarget_of_holds {r : Region} {wa : Nat} (pick : Region → Target) (rs : List Region)
    (h : Region.holds r wa = true) : findTarget pick (r :: rs) wa = pick r := if_pos h

/-- The default map lists the boot Flash first (log entry 3). -/
theorem fetchTarget_default_of_bootFlash {wa : Nat} (h : Region.holds Config.bootFlash wa = true) :
    fetchTarget .default wa = .flash := findTarget_of_holds _ _ h

/-! ## The two entries -/

/-- User mode asks for ERL clear (60_exceptions.md R510). -/
theorem State.userMode_eq_false_of_erl {s : State} (h : s.cp0.status.erl = true) : s.userMode = false := by
  rw [Bool.eq_false_iff, Ne, State.userMode_iff]
  simp [h]

/-- R553: ERL is set and Debug.DM is cleared. -/
theorem enterReset_atVector (s : State) : (enterReset s).pc = resetVector ∧ (enterReset s).isaMode = false ∧
    (enterReset s).userMode = false ∧ (enterReset s).cp0.dbg.dm = false :=
  ⟨rfl, rfl, State.userMode_eq_false_of_erl rfl, rfl⟩

/-- R507: ERL is set; an NMI does not write Debug (log entry 32). -/
theorem enterNmi_atVector (s : State) : (enterNmi s).pc = resetVector ∧ (enterNmi s).isaMode = false ∧
    (enterNmi s).userMode = false ∧ (enterNmi s).cp0.dbg.dm = s.cp0.dbg.dm :=
  ⟨rfl, rfl, State.userMode_eq_false_of_erl rfl, rfl⟩

/-- Settles O9: the reset state and both entries stand at `resetVector` with ERL set; the address is that of kseg1, and the
boot Flash holds it. -/
theorem resetFetchAddress : Obligations.ResetFetchAddress := by
  unfold Obligations.ResetFetchAddress
  refine ⟨rfl, rfl, State.userMode_eq_false_of_erl rfl, rfl, translate_resetVector,
    fetchTarget_default_of_bootFlash (by decide),
    fun s es => ⟨fun hreset hisa hboot => ?reset, fun hnmi hisa hstep => ?nmi⟩⟩
  case reset =>
    rw [step_of_event hreset]
    exact ⟨_, envStep_reset hisa hboot, enterReset_atVector _⟩
  case nmi =>
    rw [step_of_event hnmi]
    exact ⟨_, whenRunning_of _ hisa hstep, enterNmi_atVector _⟩

end Sys2Proof.Machine
end

section
/-!
The decoder and the encoder undo each other (30_encoding.md): the word of every instruction decodes to it, the fields of
a word say which encoding it is, and O1, O2 and O3 assembled from these.
-/
namespace Sys2Proof.Machine

open Sys2Proof

/-! ## From an instruction to its word and back -/

theorem decode_sc (base rt : Reg) (offset : BitVec 16) :
    decode (encI 0x38#6 base rt offset) = .instr (.sc base rt offset) := by simp [decode]

theorem decode_synci (base : Reg) (offset : BitVec 16) :
    decode (encI 0x01#6 base 0x1F#5 offset) = .instr (.synci base offset) := by simp [decode, decodeRegimm]

theorem decode_sdbbp (code : BitVec 20) : decode (encCode 0x1C#6 code 0x3F#6) = .instr (.sdbbp code) := by
  simp [decode, decodeSpecial2]

theorem decode_movci (rs : Reg) (cc : BitVec 3) (b17 tf : BitVec 1) (rd low : Reg) :
    decode (encMovci rs cc b17 tf rd low) = .instr (.movci rs cc b17 tf rd low) := by simp [decode, decodeSpecial]

theorem decode_mfc0 (rt rd : Reg) (sel : BitVec 3) : decode (encSel 0x00#5 rt rd sel) = .instr (.mfc0 rt rd sel) := by
  simp [decode, decodeCop0, whenZeroCop0]

theorem decode_mtc0 (rt rd : Reg) (sel : BitVec 3) : decode (encSel 0x04#5 rt rd sel) = .instr (.mtc0 rt rd sel) := by
  simp [decode, decodeCop0, whenZeroCop0]

theorem decode_wait (code : BitVec 19) : decode (encCo code 0x20#6) = .instr (.wait code) := by
  simp [decode, decodeCop0, decodeCo]

/-- Only SLL needs to be well-formed for this: three of its words are instructions of their own (R198). -/
theorem decode_encode : ∀ i : Instr, i.wellFormed = true → decode (encode i) = .instr i
  | .lb _ _ _, _ => decode_lb _ _ _
  | .lbu _ _ _, _ => decode_lbu _ _ _
  | .lh _ _ _, _ => decode_lh _ _ _
  | .lhu _ _ _, _ => decode_lhu _ _ _
  | .lw _ _ _, _ => decode_lw _ _ _
  | .lwl _ _ _, _ => decode_lwl _ _ _
  | .lwr _ _ _, _ => decode_lwr _ _ _
  | .sb _ _ _, _ => decode_sb _ _ _
  | .sh _ _ _, _ => decode_sh _ _ _
  | .sw _ _ _, _ => decode_sw _ _ _
  | .swl _ _ _, _ => decode_swl _ _ _
  | .swr _ _ _, _ => decode_swr _ _ _
  | .ll _ _ _, _ => decode_ll _ _ _
  | .sc _ _ _, _ => decode_sc _ _ _
  | .add _ _ _, _ => decode_add _ _ _
  | .addu _ _ _, _ => decode_addu _ _ _
  | .sub _ _ _, _ => decode_sub _ _ _
  | .subu _ _ _, _ => decode_subu _ _ _
  | .slt _ _ _, _ => decode_slt _ _ _
  | .sltu _ _ _, _ => decode_sltu _ _ _
  | .and_ _ _ _, _ => decode_and _ _ _
  | .or_ _ _ _, _ => decode_or _ _ _
  | .xor_ _ _ _, _ => decode_xor _ _ _
  | .nor_ _ _ _, _ => decode_nor _ _ _
  | .addi _ _ _, _ => decode_addi _ _ _
  | .addiu _ _ _, _ => decode_addiu _ _ _
  | .slti _ _ _, _ => decode_slti _ _ _
  | .sltiu _ _ _, _ => decode_sltiu _ _ _
  | .andi _ _ _, _ => decode_andi _ _ _
  | .ori _ _ _, _ => decode_ori _ _ _
  | .xori _ _ _, _ => decode_xori _ _ _
  | .lui _ _, _ => decode_lui _ _
  | .nop, _ => decode_nop
  | .ssnop, _ => decode_ssnop
  | .ehb, _ => decode_ehb
  | .sll _ _ _, h => decode_sll _ _ _ h
  | .srl _ _ _, _ => decode_srl _ _ _
  | .sra _ _ _, _ => decode_sra _ _ _
  | .sllv _ _ _, _ => decode_sllv _ _ _
  | .srlv _ _ _, _ => decode_srlv _ _ _
  | .srav _ _ _, _ => decode_srav _ _ _
  | .rotr _ _ _, _ => decode_rotr _ _ _
  | .rotrv _ _ _, _ => decode_rotrv _ _ _
  | .clz _ _ _, _ => decode_clz _ _ _
  | .clo _ _ _, _ => decode_clo _ _ _
  | .ext _ _ _ _, _ => decode_ext _ _ _ _
  | .ins _ _ _ _, _ => decode_ins _ _ _ _
  | .seb _ _, _ => decode_seb _ _
  | .seh _ _, _ => decode_seh _ _
  | .wsbh _ _, _ => decode_wsbh _ _
  | .mult _ _, _ => decode_mult _ _
  | .multu _ _, _ => decode_multu _ _
  | .mul _ _ _, _ => decode_mul _ _ _
  | .madd _ _, _ => decode_madd _ _
  | .maddu _ _, _ => decode_maddu _ _
  | .msub _ _, _ => decode_msub _ _
  | .msubu _ _, _ => decode_msubu _ _
  | .div _ _, _ => decode_div _ _
  | .divu _ _, _ => decode_divu _ _
  | .mfhi _, _ => decode_mfhi _
  | .mflo _, _ => decode_mflo _
  | .mthi _, _ => decode_mthi _
  | .mtlo _, _ => decode_mtlo _
  | .j _, _ => decode_j _
  | .jal _, _ => decode_jal _
  | .jr _, _ => decode_jr _
  | .jalr _ _, _ => decode_jalr _ _
  | .jrHb _, _ => decode_jrHb _
  | .jalrHb _ _, _ => decode_jalrHb _ _
  | .jalx _, _ => decode_jalx _
  | .beq _ _ _, _ => decode_beq _ _ _
  | .bne _ _ _, _ => decode_bne _ _ _
  | .blez _ _, _ => decode_blez _ _
  | .bgtz _ _, _ => decode_bgtz _ _
  | .bltz _ _, _ => decode_bltz _ _
  | .bgez _ _, _ => decode_bgez _ _
  | .bltzal _ _, _ => decode_bltzal _ _
  | .bgezal _ _, _ => decode_bgezal _ _
  | .bltzl _ _, _ => decode_bltzl _ _
  | .bgezl _ _, _ => decode_bgezl _ _
  | .bltzall _ _, _ => decode_bltzall _ _
  | .bgezall _ _, _ => decode_bgezall _ _
  | .beql _ _ _, _ => decode_beql _ _ _
  | .bnel _ _ _, _ => decode_bnel _ _ _
  | .blezl _ _, _ => decode_blezl _ _
  | .bgtzl _ _, _ => decode_bgtzl _ _
  | .sync _, _ => decode_sync _
  | .synci _ _, _ => decode_synci _ _
  | .syscall _, _ => decode_syscall _
  | .break_ _, _ => decode_break _
  | .tge _ _ _, _ => decode_tge _ _ _
  | .tgeu _ _ _, _ => decode_tgeu _ _ _
  | .tlt _ _ _, _ => decode_tlt _ _ _
  | .tltu _ _ _, _ => decode_tltu _ _ _
  | .teq _ _ _, _ => decode_teq _ _ _
  | .tne _ _ _, _ => decode_tne _ _ _
  | .tgei _ _, _ => decode_tgei _ _
  | .tgeiu _ _, _ => decode_tgeiu _ _
  | .tlti _ _, _ => decode_tlti _ _
  | .tltiu _ _, _ => decode_tltiu _ _
  | .teqi _ _, _ => decode_teqi _ _
  | .tnei _ _, _ => decode_tnei _ _
  | .sdbbp _, _ => decode_sdbbp _
  | .movn _ _ _, _ => decode_movn _ _ _
  | .movz _ _ _, _ => decode_movz _ _ _
  | .movci _ _ _ _ _ _, _ => decode_movci _ _ _ _ _ _
  | .rdhwr _ _, _ => decode_rdhwr _ _
  | .pref _ _ _, _ => decode_pref _ _ _
  | .cache _ _ _, _ => decode_cache _ _ _
  | .mfc0 _ _ _, _ => decode_mfc0 _ _ _
  | .mtc0 _ _ _, _ => decode_mtc0 _ _ _
  | .di _, _ => decode_di _
  | .ei _, _ => decode_ei _
  | .rdpgpr _ _, _ => decode_rdpgpr _ _
  | .wrpgpr _ _, _ => decode_wrpgpr _ _
  | .eret, _ => decode_eret
  | .deret, _ => decode_deret
  | .wait _, _ => decode_wait _
  | .tlbr, _ => decode_tlbr
  | .tlbwi, _ => decode_tlbwi
  | .tlbwr, _ => decode_tlbwr
  | .tlbp, _ => decode_tlbp
  | .cop1 _, _ => decode_cop1 _
  | .cop2 _, _ => decode_cop2 _
  | .cop1x _, _ => decode_cop1x _
  | .lwc1 _ _ _, _ => decode_lwc1 _ _ _
  | .ldc1 _ _ _, _ => decode_ldc1 _ _ _
  | .swc1 _ _ _, _ => decode_swc1 _ _ _
  | .sdc1 _ _ _, _ => decode_sdc1 _ _ _
  | .lwc2 _ _ _, _ => decode_lwc2 _ _ _
  | .ldc2 _ _ _, _ => decode_ldc2 _ _ _
  | .swc2 _ _ _, _ => decode_swc2 _ _ _
  | .sdc2 _ _ _, _ => decode_sdc2 _ _ _

/-- A word laid out as bytes in memory order is read back by the decoder on bytes. -/
theorem decodeBytes_bytesOfWord (w : Word) : decodeBytes (bytesOfWord w) = decode w :=
  congrArg decode (wordOfBytes_byteLanes w)

/-- Settles O1: the decoding rule of each instruction, and memory order undone. -/
theorem decodeOfEncode : Obligations.DecodeOfEncode := by
  unfold Obligations.DecodeOfEncode
  intro i h
  rw [decodeBytes_bytesOfWord]
  exact ⟨decode_encode i h, decode_encode i h⟩

/-! ## A word is an encoding exactly where its fields are those of the encoding -/

section Fields
variable {w : Word}

theorem encR_eq_iff (op : BitVec 6) (rs rt rd sa : Reg) (fn : BitVec 6) : encR op rs rt rd sa fn = w ↔
    opcodeOf w = op ∧ rsOf w = rs ∧ rtOf w = rt ∧ rdOf w = rd ∧ saOf w = sa ∧ functOf w = fn := by
  constructor
  · rintro rfl
    simp
  · rintro ⟨rfl, rfl, rfl, rfl, rfl, rfl⟩
    exact encR_fields w

theorem encI_eq_iff (op : BitVec 6) (rs rt : Reg) (imm : BitVec 16) : encI op rs rt imm = w ↔
    opcodeOf w = op ∧ rsOf w = rs ∧ rtOf w = rt ∧ immOf w = imm := by
  constructor
  · rintro rfl
    simp
  · rintro ⟨rfl, rfl, rfl, rfl⟩
    exact encI_fields w

theorem encJ_eq_iff (op : BitVec 6) (index : BitVec 26) :
    encJ op index = w ↔ opcodeOf w = op ∧ indexOf w = index := by
  constructor
  · rintro rfl
    simp
  · rintro ⟨rfl, rfl⟩
    exact encJ_fields w

theorem encCode_eq_iff (op : BitVec 6) (code : BitVec 20) (fn : BitVec 6) : encCode op code fn = w ↔
    opcodeOf w = op ∧ codeOf w = code ∧ functOf w = fn := by
  constructor
  · rintro rfl
    simp
  · rintro ⟨rfl, rfl, rfl⟩
    exact encCode_fields w

theorem encTrap_eq_iff (rs rt : Reg) (code : BitVec 10) (fn : BitVec 6) : encTrap rs rt code fn = w ↔
    opcodeOf w = 0x00#6 ∧ rsOf w = rs ∧ rtOf w = rt ∧ trapCodeOf w = code ∧ functOf w = fn := by
  constructor
  · rintro rfl
    simp
  · rintro ⟨hop, rfl, rfl, rfl, rfl⟩
    exact encTrap_fields hop

theorem encCo_eq_iff (code : BitVec 19) (fn : BitVec 6) : encCo code fn = w ↔
    opcodeOf w = 0x10#6 ∧ coOf w = 1#1 ∧ waitCodeOf w = code ∧ functOf w = fn := by
  constructor
  · rintro rfl
    simp
  · rintro ⟨hop, hco, rfl, rfl⟩
    exact encCo_fields hop hco

theorem encSel_eq_iff (rs rt rd : Reg) (sel : BitVec 3) : encSel rs rt rd sel = w ↔
    opcodeOf w = 0x10#6 ∧ rsOf w = rs ∧ rtOf w = rt ∧ rdOf w = rd ∧ selZeroOf w = 0#8 ∧ selOf w = sel := by
  constructor
  · rintro rfl
    simp
  · rintro ⟨hop, rfl, rfl, rfl, hz, rfl⟩
    exact encSel_fields hop hz

theorem encMovci_eq_iff (rs : Reg) (cc : BitVec 3) (b17 tf : BitVec 1) (rd low : Reg) :
    encMovci rs cc b17 tf rd low = w ↔ opcodeOf w = 0x00#6 ∧ rsOf w = rs ∧ ccOf w = cc ∧ bit17Of w = b17 ∧
      tfOf w = tf ∧ rdOf w = rd ∧ saOf w = low ∧ functOf w = 0x01#6 := by
  constructor
  · rintro rfl
    simp
  · rintro ⟨hop, rfl, rfl, rfl, rfl, rfl, rfl, hfn⟩
    exact encMovci_fields hop hfn

end Fields

/-! ## From a word to its instruction and back, map by map (R189 to R194) -/

/-- Where `d` is an instruction, `w` is its encoding. -/
def Encodes (w : Word) (d : Decoded) : Prop := ∀ i, d = .instr i → encode i = w

section Maps
variable {w : Word}

theorem encodes_instr {i : Instr} : Encodes w (.instr i) ↔ encode i = w := by simp [Encodes]

theorem encodes_whenZero {ok : Bool} {i : Instr} : Encodes w (whenZero ok i) ↔ (ok = true → encode i = w) := by
  cases ok <;> simp [Encodes, whenZero]

theorem encodes_whenZeroCop0 {ok : Bool} {i : Instr} :
    Encodes w (whenZeroCop0 ok i) ↔ (ok = true → encode i = w) := by
  cases ok <;> simp [Encodes, whenZeroCop0]

theorem encodes_ite {c : Prop} [Decidable c] {d e : Decoded} :
    Encodes w (if c then d else e) ↔ (c → Encodes w d) ∧ (¬c → Encodes w e) := by
  split <;> simp_all

theorem encodes_reserved : Encodes w .reserved := fun _ h => nomatch h

theorem encodes_reservedCop0 : Encodes w .reservedCop0 := fun _ h => nomatch h

theorem encodes_mustBeZero : Encodes w .mustBeZero := fun _ h => nomatch h

theorem encodes_decodeSll (hop : opcodeOf w = 0x00#6) (hfn : functOf w = 0x00#6) : Encodes w (decodeSll w) := by
  simp_all [decodeSll, encodes_instr, encodes_ite, encodes_mustBeZero, encode, encR_eq_iff]

theorem encodes_decodeSpecial (hop : opcodeOf w = 0x00#6) : Encodes w (decodeSpecial w) := by
  unfold decodeSpecial
  split <;> simp_all [encodes_instr, encodes_ite, encodes_whenZero, encodes_mustBeZero, encodes_reserved,
    encodes_decodeSll, encode, encR_eq_iff, encCode_eq_iff, encTrap_eq_iff, encMovci_eq_iff]

theorem encodes_decodeRegimm (hop : opcodeOf w = 0x01#6) : Encodes w (decodeRegimm w) := by
  unfold decodeRegimm
  split <;> simp_all [encodes_instr, encodes_reserved, encode, encI_eq_iff]

theorem encodes_decodeSpecial2 (hop : opcodeOf w = 0x1C#6) : Encodes w (decodeSpecial2 w) := by
  unfold decodeSpecial2
  split <;> simp_all [encodes_instr, encodes_whenZero, encodes_reserved, encode, encR_eq_iff, encCode_eq_iff]

theorem encodes_decodeBshfl (hop : opcodeOf w = 0x1F#6) (hfn : functOf w = 0x20#6) : Encodes w (decodeBshfl w) := by
  unfold decodeBshfl
  split <;> simp_all [encodes_whenZero, encodes_reserved, encode, encR_eq_iff]

theorem encodes_decodeSpecial3 (hop : opcodeOf w = 0x1F#6) : Encodes w (decodeSpecial3 w) := by
  unfold decodeSpecial3
  split <;> simp_all [encodes_instr, encodes_whenZero, encodes_reserved, encodes_decodeBshfl, encode, encR_eq_iff]

theorem encodes_decodeCo (hop : opcodeOf w = 0x10#6) (hco : coOf w = 1#1) : Encodes w (decodeCo w) := by
  unfold decodeCo
  split <;> simp_all [encodes_instr, encodes_whenZeroCop0, encodes_reservedCop0, encode, encCo_eq_iff]

/-- The function field of DI and EI is bit 5 and, below it, five bits that must be zero. -/
theorem functOf_eq_append : functOf w = BitVec.ofBool w[5] ++ w.extractLsb' 0 5 := by
  have hbit : w.extractLsb' 5 1 = BitVec.ofBool w[5] := by
    ext k hk
    obtain rfl : k = 0 := by omega
    simp
  rw [← hbit, BitVec.extractLsb'_append_extractLsb'_eq_extractLsb' (start₁ := 0) (start₂ := 5) rfl, functOf]

theorem encodes_decodeMfmc0 (hop : opcodeOf w = 0x10#6) (hrs : rsOf w = 0x0B#5) : Encodes w (decodeMfmc0 w) := by
  unfold decodeMfmc0
  split
  case isFalse => exact encodes_reservedCop0
  case isTrue hrd =>
    refine encodes_whenZeroCop0.mpr fun hz => ?_
    obtain ⟨hsa, hlow⟩ : saOf w = 0#5 ∧ w.extractLsb' 0 5 = 0#5 := by simpa using hz
    split <;> simp_all [encode, encR_eq_iff, functOf_eq_append]

theorem encodes_decodeCop0 (hop : opcodeOf w = 0x10#6) : Encodes w (decodeCop0 w) := by
  unfold decodeCop0
  split
  case isTrue hco => exact encodes_decodeCo hop hco
  case isFalse =>
    split <;> simp_all [encodes_whenZeroCop0, encodes_reservedCop0, encodes_decodeMfmc0, encode, encSel_eq_iff,
      encR_eq_iff]

theorem encodes_decode : Encodes w (decode w) := by
  unfold decode
  split <;> simp_all [encodes_instr, encodes_whenZero, encodes_reserved, encodes_decodeSpecial, encodes_decodeRegimm,
    encodes_decodeSpecial2, encodes_decodeSpecial3, encodes_decodeCop0, encode, encI_eq_iff, encJ_eq_iff]

end Maps

/-- Settles O2: each map decodes a word only to the instruction that has its fields. -/
theorem encodeOfDecode : Obligations.EncodeOfDecode := by
  unfold Obligations.EncodeOfDecode
  exact fun _ i h => encodes_decode i h

/-- Settles O3: each example word is laid out as the encoding of its instruction. -/
theorem exampleWordsDecode : Obligations.ExampleWordsDecode := by
  unfold Obligations.ExampleWordsDecode
  exact ⟨decode_lw 29#5 8#5 4#16, decode_sw 29#5 31#5 20#16, decode_add 1#5 2#5 3#5, decode_sll 1#5 2#5 4#5 rfl,
    decode_jalr 25#5 31#5, decode_bne 1#5 2#5 0xFFFE#16, decode_teq 2#5 0#5 7#10, decode_mtc0 9#5 12#5 1#3, decode_eret,
    decode_cop1 0x2020800#26⟩

end Sys2Proof.Machine
end

section
/-!
The classes of words that are no instruction (30_encoding.md R196, R197, 44_coprocessor.md R446): each class of Safety.lean
holds exactly the words that the decoder answers so, map by map, and O4 assembled from these.
-/
namespace Sys2Proof.Machine

open Sys2Proof

/-! ## What it is for a word to be in the class of its outcome -/

/-- The word is in these of the four classes. -/
def InClasses (w : Word) (cell field cop0 cop0Field : Prop) : Prop :=
  (unassignedCell w = true ↔ cell) ∧ (nonzeroField w = true ↔ field) ∧ (unassignedCop0 w = true ↔ cop0) ∧
    (nonzeroCop0Field w = true ↔ cop0Field)

/-- Where `d` is no instruction, `w` is in the class that says why, and in no other. -/
def Classified (w : Word) : Decoded → Prop
  | .instr _ => InClasses w False False False False
  | .reserved => InClasses w True False False False
  | .mustBeZero => InClasses w False True False False
  | .reservedCop0 => InClasses w False False True False
  | .mustBeZeroCop0 => InClasses w False False False True
  | .truncated => False

section Maps
variable {w : Word}

theorem classified_instr {i : Instr} : Classified w (.instr i) ↔ InClasses w False False False False := .rfl

theorem classified_reserved : Classified w .reserved ↔ InClasses w True False False False := .rfl

theorem classified_mustBeZero : Classified w .mustBeZero ↔ InClasses w False True False False := .rfl

theorem classified_reservedCop0 : Classified w .reservedCop0 ↔ InClasses w False False True False := .rfl

theorem classified_ite {c : Prop} [Decidable c] {d e : Decoded} :
    Classified w (if c then d else e) ↔ (c → Classified w d) ∧ (¬c → Classified w e) := by
  split <;> simp_all

theorem classified_whenZero {ok : Bool} {i : Instr} :
    Classified w (whenZero ok i) ↔ InClasses w False (ok = false) False False := by
  cases ok <;> simp [whenZero, Classified]

theorem classified_whenZeroCop0 {ok : Bool} {i : Instr} :
    Classified w (whenZeroCop0 ok i) ↔ InClasses w False False False (ok = false) := by
  cases ok <;> simp [whenZeroCop0, Classified]

/-- The function fields of SPECIAL that the map assigns leave only the unassigned ones (R190). -/
theorem unassignedCell_special (hop : opcodeOf w = 0x00#6) (hfn : functOf w ∉ [0x00#6, 0x01#6, 0x02#6, 0x03#6, 0x04#6,
    0x06#6, 0x07#6, 0x08#6, 0x09#6, 0x0A#6, 0x0B#6, 0x0C#6, 0x0D#6, 0x0F#6, 0x10#6, 0x11#6, 0x12#6, 0x13#6, 0x18#6, 0x19#6,
    0x1A#6, 0x1B#6, 0x20#6, 0x21#6, 0x22#6, 0x23#6, 0x24#6, 0x25#6, 0x26#6, 0x27#6, 0x2A#6, 0x2B#6, 0x30#6, 0x31#6, 0x32#6,
    0x33#6, 0x34#6, 0x36#6]) : unassignedCell w = true := by
  simp only [unassignedCell, hop]
  generalize functOf w = f at hfn ⊢
  simp
  revert f
  decide

theorem classified_decodeSpecial (hop : opcodeOf w = 0x00#6) : Classified w (decodeSpecial w) := by
  unfold decodeSpecial
  split
  case h_39 =>
    simp_all [classified_reserved, InClasses, unassignedCell_special, nonzeroField, unassignedCop0, nonzeroCop0Field]
  all_goals rename_i hfn
  all_goals simp [classified_instr, classified_whenZero, classified_ite, classified_mustBeZero, InClasses, decodeSll,
    unassignedCell, nonzeroField, unassignedCop0, nonzeroCop0Field, hop, hfn]
  all_goals tauto

/-- The same for the `rt` fields of REGIMM (R191). -/
theorem unassignedCell_regimm (hop : opcodeOf w = 0x01#6) (hrt : rtOf w ∉ [0x00#5, 0x01#5, 0x02#5, 0x03#5, 0x08#5, 0x09#5,
    0x0A#5, 0x0B#5, 0x0C#5, 0x0E#5, 0x10#5, 0x11#5, 0x12#5, 0x13#5, 0x1F#5]) : unassignedCell w = true := by
  simp only [unassignedCell, hop]
  generalize rtOf w = r at hrt ⊢
  simp
  revert r
  decide

theorem classified_decodeRegimm (hop : opcodeOf w = 0x01#6) : Classified w (decodeRegimm w) := by
  unfold decodeRegimm
  split
  case h_16 =>
    simp_all [classified_reserved, InClasses, unassignedCell_regimm, nonzeroField, unassignedCop0, nonzeroCop0Field]
  all_goals rename_i hrt
  all_goals simp [classified_instr, InClasses, unassignedCell, nonzeroField, unassignedCop0, nonzeroCop0Field, hop, hrt]

theorem classified_decodeSpecial2 (hop : opcodeOf w = 0x1C#6) : Classified w (decodeSpecial2 w) := by
  unfold decodeSpecial2
  split <;> simp_all [classified_instr, classified_whenZero, classified_reserved, InClasses, unassignedCell, nonzeroField,
    unassignedCop0, nonzeroCop0Field]
  all_goals tauto

theorem classified_decodeBshfl (hop : opcodeOf w = 0x1F#6) (hfn : functOf w = 0x20#6) : Classified w (decodeBshfl w) := by
  unfold decodeBshfl
  split <;> simp_all [classified_whenZero, classified_reserved, InClasses, unassignedCell, nonzeroField,
    unassignedCop0, nonzeroCop0Field]

theorem classified_decodeSpecial3 (hop : opcodeOf w = 0x1F#6) : Classified w (decodeSpecial3 w) := by
  unfold decodeSpecial3
  split <;> simp_all [classified_instr, classified_whenZero, classified_reserved, classified_decodeBshfl, InClasses,
    unassignedCell, nonzeroField, unassignedCop0, nonzeroCop0Field]
  all_goals tauto

theorem classified_decodeCo (hop : opcodeOf w = 0x10#6) (hco : coOf w = 1#1) : Classified w (decodeCo w) := by
  unfold decodeCo
  split <;> simp_all [classified_instr, classified_whenZeroCop0, classified_reservedCop0, InClasses, unassignedCell,
    nonzeroField, unassignedCop0, nonzeroCop0Field]

theorem classified_decodeMfmc0 (hop : opcodeOf w = 0x10#6) (hco : coOf w = 0#1) (hrs : rsOf w = 0x0B#5) :
    Classified w (decodeMfmc0 w) := by
  unfold decodeMfmc0
  split <;> simp_all [classified_whenZeroCop0, classified_reservedCop0, InClasses, unassignedCell, nonzeroField,
    unassignedCop0, nonzeroCop0Field]
  all_goals tauto

theorem classified_decodeCop0 (hop : opcodeOf w = 0x10#6) : Classified w (decodeCop0 w) := by
  unfold decodeCop0
  split
  case isTrue hco => exact classified_decodeCo hop hco
  case isFalse hco =>
    have hco : coOf w = 0#1 := by
      revert hco
      generalize coOf w = b
      revert b
      decide
    split <;> simp_all [classified_whenZeroCop0, classified_reservedCop0, classified_decodeMfmc0, InClasses,
      unassignedCell, nonzeroField, unassignedCop0, nonzeroCop0Field]
    all_goals tauto

/-- The same for the primary map (R189). -/
theorem unassignedCell_primary (hop : opcodeOf w ∉ [0x00#6, 0x01#6, 0x02#6, 0x03#6, 0x04#6, 0x05#6, 0x06#6, 0x07#6, 0x08#6,
    0x09#6, 0x0A#6, 0x0B#6, 0x0C#6, 0x0D#6, 0x0E#6, 0x0F#6, 0x10#6, 0x11#6, 0x12#6, 0x13#6, 0x14#6, 0x15#6, 0x16#6, 0x17#6,
    0x1C#6, 0x1D#6, 0x1F#6, 0x20#6, 0x21#6, 0x22#6, 0x23#6, 0x24#6, 0x25#6, 0x26#6, 0x28#6, 0x29#6, 0x2A#6, 0x2B#6, 0x2E#6,
    0x2F#6, 0x30#6, 0x31#6, 0x32#6, 0x33#6, 0x35#6, 0x36#6, 0x38#6, 0x39#6, 0x3A#6, 0x3D#6, 0x3E#6]) :
    unassignedCell w = true := by
  have hlist : [0x18#6, 0x19#6, 0x1A#6, 0x1B#6, 0x1E#6, 0x27#6, 0x2C#6, 0x2D#6, 0x34#6, 0x37#6, 0x3B#6, 0x3C#6,
      0x3F#6].contains (opcodeOf w) = true := by
    generalize opcodeOf w = op at hop
    revert op
    decide
  simp only [unassignedCell, hlist, Bool.true_or]

theorem classified_decode : Classified w (decode w) := by
  unfold decode
  split
  case h_1 hop => exact classified_decodeSpecial hop
  case h_2 hop => exact classified_decodeRegimm hop
  case h_52 =>
    simp_all [classified_reserved, InClasses, unassignedCell_primary, nonzeroField, unassignedCop0, nonzeroCop0Field]
  all_goals rename_i hop
  all_goals simp [classified_instr, classified_whenZero, classified_decodeSpecial2, classified_decodeSpecial3,
    classified_decodeCop0, InClasses, unassignedCell, nonzeroField, unassignedCop0, nonzeroCop0Field, hop]

/-- A word is in a class exactly where the decoder answers so. -/
theorem inClasses_decode (w : Word) : InClasses w (decode w = .reserved) (decode w = .mustBeZero)
    (decode w = .reservedCop0) (decode w = .mustBeZeroCop0) := by
  have hw : Classified w (decode w) := classified_decode
  cases hd : decode w <;> simp_all [Classified]

end Maps

/-- A COP0 word that is no instruction: the check of Coprocessor 0, and then what is said of it. -/
theorem runDecoded_cop0 {d : Decoded} {o : Out} {s : State} (hd : runDecoded d s =
    if cop0Hazard s then .refused .executionHazard else withCop0 s o) (hh : cop0Hazard s = false) :
    (s.cop0Usable = true → runDecoded d s = o) ∧ (s.cop0Usable = false → Takes (runDecoded d s) (.cpu 0#2) s) := by
  rw [hd, hh]
  refine ⟨fun hu => withCop0_usable o hu, fun hu => ?_⟩
  simpa [withCop0_unusable o hu] using takes_takeException (.cpu 0#2) s

/-- Settles O4: each class is where the decoder answers so, and `runDecoded` says what such a word does. -/
theorem unassignedWordsRaiseReservedInstruction : Obligations.UnassignedWordsRaiseReservedInstruction := by
  unfold Obligations.UnassignedWordsRaiseReservedInstruction
  refine ⟨fun w hw => ?cell, fun w hw => ?field, fun w hw => ?cop0, fun w hw => ?cop0Field, fun w => ?total⟩
  all_goals obtain ⟨hcell, hfield, hcop0, hcop0Field⟩ := inClasses_decode w
  case cell =>
    rw [hcell] at hw
    exact ⟨hw, fun s => hw ▸ takes_takeException .ri s⟩
  case field =>
    rw [hfield] at hw
    exact ⟨hw, fun s => by simp only [hw, runDecoded]⟩
  case cop0 =>
    rw [hcop0] at hw
    refine ⟨hw, fun s hh => ?_⟩
    obtain ⟨husable, hunusable⟩ := runDecoded_cop0 (d := .reservedCop0) rfl hh
    rw [hw]
    exact ⟨fun hu => husable hu ▸ takes_takeException .ri s, hunusable⟩
  case cop0Field =>
    rw [hcop0Field] at hw
    rw [hw]
    exact ⟨rfl, fun s hh => runDecoded_cop0 rfl hh⟩
  case total =>
    have hw : Classified w (decode w) := classified_decode
    rw [hcell, hfield, hcop0, hcop0Field]
    cases hd : decode w <;> simp_all [Classified]

end Sys2Proof.Machine
end

section
/-!
What an instruction can do, said once: the answer of `exec` is one of the shapes of `Answers`. Every statement about all
instructions is a case split over these shapes.
-/
namespace Sys2Proof.Machine

open Sys2Proof

/-! ## The local effects of an instruction -/

/-- `u` is `s` but for general registers other than r0, HI, LO, LLbit, free values drawn, and execution hazards cleared. -/
structure Local (s u : State) : Prop where
  zero : (∀ set, s.gprs[gprIndex set 0#5] = 0#32) → ∀ set, u.gprs[gprIndex set 0#5] = 0#32
  hazards : u.hazards = s.hazards ∨ u.hazards = []
  pc : u.pc = s.pc
  isaMode : u.isaMode = s.isaMode
  delaySlot : u.delaySlot = s.delaySlot
  waiting : u.waiting = s.waiting
  cp0 : u.cp0 = s.cp0
  mem : u.mem = s.mem
  devRegs : u.devRegs = s.devRegs
  codeWords : u.codeWords = s.codeWords
  staleStatus : u.staleStatus = s.staleStatus
  intReq : u.intReq = s.intReq
  schedule : u.schedule = s.schedule
  cfg : u.cfg = s.cfg

section Local
variable {s u : State}

/-- Two states that differ in HI, LO, LLbit and the free-value counter alone. -/
theorem Local.of_eq {hi lo : Word} {llbit : Bool} {n : Nat}
    (h : u = { s with hi := hi, lo := lo, llbit := llbit, freeIdx := n }) : Local s u := by
  subst h
  exact ⟨id, .inl rfl, rfl, rfl, rfl, rfl, rfl, rfl, rfl, rfl, rfl, rfl, rfl, rfl⟩

theorem Local.refl (s : State) : Local s s := .of_eq rfl

theorem Local.executionBarrier (s : State) : Local s s.executionBarrier :=
  ⟨id, .inr rfl, rfl, rfl, rfl, rfl, rfl, rfl, rfl, rfl, rfl, rfl, rfl, rfl⟩

theorem Local.setRegOf (h : Local s u) (set : SetNum) (r : Reg) (v : Word) : Local s (u.setRegOf set r v) :=
  ⟨fun hz => zeroRegisters_setRegOf u set r v (h.zero hz), by simpa using h.hazards, by simpa using h.pc,
    by simpa using h.isaMode, by simpa using h.delaySlot, by simpa using h.waiting, by simpa using h.cp0,
    by simpa using h.mem, by simpa using h.devRegs, by simpa using h.codeWords, by simpa using h.staleStatus,
    by simpa using h.intReq, by simpa using h.schedule, by simpa using h.cfg⟩

theorem Local.setReg (h : Local s u) (r : Reg) (v : Word) : Local s (u.setReg r v) := h.setRegOf _ r v

/-- A read of Coprocessor 0 draws at most a free value. -/
theorem Local.readCp0 (r : Cp0Reg) (s : State) : Local s (readCp0 r s).2 := by
  unfold Machine.readCp0
  repeat' split
  all_goals exact .of_eq rfl

end Local

/-! ## The shapes of an answer -/

/-- The ways in which instruction `i`, executed in `s`, answers a next state. -/
inductive Answers (i : Instr) (s : State) : State → Prop
  | raised (e : Exc) : Answers i s (raise e s)
  | completed {u : State} (hu : Local s u) : Answers i s u.advance
  | branched {u : State} (hu : Local s u) (hslot : s.delaySlot = none) (target : Word) (isa barrier : Bool) :
      Answers i s (u.branchVia target isa barrier)
  | nullified {u : State} (hu : Local s u) (hslot : s.delaySlot = none) (target : Word) : Answers i s (u.goto target)
  | storedRam {u : State} (hu : Local s u) (wa : Nat) (w : LaneStore) : Answers i s (u.advance.storeRam wa w)
  | storedDevice {u : State} (hu : Local s u) {n : Nat} {va pa : Word} {reg : Nat} {kind : RegKind} (w : LaneStore)
      (hok : AccessOk n va s pa) (htarget : storeTarget s.cfg (wordAddr pa) = .device reg kind) :
      Answers i s (u.advance.storeDevice reg kind w)
  | synchronized (base : Reg) (offset : BitVec 16) (hi : i = .synci base offset) :
      Answers i s { s.advance with
        codeWords :=
          syncCode s.advance.codeWords (wordAddr (translate s.cp0.status.erl (s.effectiveAddress base offset))) }
  | enteredDebug (code : BitVec 20) (hi : i = .sdbbp code) (henter : s.cfg.debugEntry = .enter) :
      Answers i s (enterDebug .dbp s)
  | wroteCp0 {r : Cp0Reg} {v : Word} {c : Cp0} (hu : s.cop0Usable = true) (hwrite : writeCp0 r v s = .ok c) :
      Answers i s (noteWrite r s (s.advance.withCp0 c))
  | setInterruptEnable (hu : s.cop0Usable = true) (rt : Reg) (b : Bool) : Answers i s (s.setInterruptEnable rt b)
  | returned (hi : i = .eret) (hu : s.cop0Usable = true) (hslot : s.delaySlot = none) :
      Answers i s (returnFromException s)
  | returnedFromDebug (hi : i = .deret) (hu : s.cop0Usable = true) (hslot : s.delaySlot = none) :
      Answers i s (returnFromDebug s)
  | waits (hu : s.cop0Usable = true) (hslot : s.delaySlot = none) : Answers i s { s.advance with waiting := true }

section Shapes
variable {i : Instr} {s t : State}

/-! ## The shared operations answer in these shapes -/

theorem Answers.of_takeException {e : Exc} (h : takeException e s = .next t) : Answers i s t :=
  (takeException_next h).2 ▸ .raised e

theorem Answers.of_complete {u : State} (h : complete u = .next t) (hu : Local s u) : Answers i s t := by
  cases h
  exact .completed hu

theorem Answers.of_completeReg {u : State} {r : Reg} {v : Word} (h : completeReg u r v = .next t) (hu : Local s u) :
    Answers i s t := by
  cases h
  exact .completed (hu.setReg r v)

/-- A register instruction writes in the state it is executed in. -/
theorem Answers.of_register {r : Reg} {v : Word} (h : completeReg s r v = .next t) : Answers i s t :=
  .of_completeReg h (.refl s)

theorem Answers.of_setHiLo {v : BitVec 64} (h : complete (s.setHiLo v) = .next t) : Answers i s t :=
  .of_complete h (.of_eq rfl)

theorem Answers.of_trapIf {c : Bool} (h : trapIf c s = .next t) : Answers i s t := by
  obtain ⟨-, rfl⟩ | ⟨-, rfl⟩ := trapIf_next h
  · exact .raised .tr
  · exact .completed (.refl s)

theorem Answers.of_overflow {c : Bool} {r : Reg} {v : Word}
    (h : (if c then takeException .ov s else completeReg s r v) = .next t) : Answers i s t := by
  split at h
  · exact .of_takeException h
  · exact .of_register h

/-- A completion that some operands refuse. -/
theorem Answers.of_register_or_refused {p : Prop} [Decidable p] {r : Reg} {v : Word} {why : Refusal}
    (h : (if p then completeReg s r v else .refused why) = .next t) : Answers i s t := by
  split at h
  · exact .of_register h
  · cases h

theorem Answers.of_withCop0 {o : Out} (h : withCop0 s o = .next t)
    (ho : s.cop0Usable = true → o = .next t → Answers i s t) : Answers i s t := by
  obtain ⟨-, rfl⟩ | ⟨hu, hnext⟩ := withCop0_next h
  · exact .raised _
  · exact ho hu hnext

theorem Answers.of_load {n : Nat} {va : Word} {k : Word → State → Out} (h : withLoad n va s k = .next t)
    (hk : ∀ w u, ∃ r v, k w u = completeReg u r v) : Answers i s t := by
  obtain ⟨e, rfl⟩ | ⟨w, u, hu, hnext⟩ := withLoad_next h
  · exact .raised e
  · obtain ⟨r, v, hreg⟩ := hk w u
    rw [hreg] at hnext
    obtain rfl | rfl := hu
    · exact .of_register hnext
    · exact .of_completeReg hnext (.of_eq rfl)

/-- A store that answers took an exception, or wrote RAM, or a peripheral register that its access reaches. -/
theorem Answers.of_withStore {n : Nat} {va : Word} {w : LaneStore} {k : State → State}
    (h : withStore n va w s k = .next t) {u : State} (hu : Local s u) (hk : k s = u.advance) : Answers i s t := by
  unfold withStore at h
  split at h
  case h_1 => exact .of_takeException h
  case h_2 => cases h
  case h_3 pa hcheck =>
    split at h
    case h_1 =>
      cases h
      exact hk ▸ .storedRam hu _ w
    case h_2 => cases h
    case h_3 htarget =>
      cases h
      exact hk ▸ .storedDevice hu w ((checkAccess_ok_iff .store n va s pa).mp hcheck) htarget
    case h_4 =>
      unfold dataBusError at h
      split at h
      · cases h
      · exact .of_takeException h

theorem Answers.of_store {n : Nat} {va : Word} {w : LaneStore} (h : withStore n va w s State.advance = .next t) :
    Answers i s t := .of_withStore h (.refl s) rfl

theorem Local.storeConditional (s : State) (rt : Reg) (r : Word) :
    Local s ({ s.setReg rt r with llbit := Config.freeBit s.freeIdx }.drawn 1) := by
  have h := (Local.refl s).setReg rt r
  exact ⟨h.zero, h.hazards, h.pc, h.isaMode, h.delaySlot, h.waiting, h.cp0, h.mem, h.devRegs, h.codeWords,
    h.staleStatus, h.intReq, h.schedule, h.cfg⟩

theorem Answers.of_sc {base rt : Reg} {offset : BitVec 16} (h : execSc base rt offset s = .next t) : Answers i s t := by
  unfold execSc at h
  split at h
  · exact .of_withStore h (.storeConditional s rt 1#32) rfl
  · dsimp only at h
    split at h
    · exact .of_takeException h
    · cases h
    · cases h
      exact .completed (.storeConditional s rt 0#32)

/-! ## Control transfers -/

theorem Answers.of_jump {u : State} {target : Word} {isa barrier : Bool}
    (h : controlTransfer s (u.branchVia target isa barrier) = .next t) (hu : Local s u) : Answers i s t := by
  obtain ⟨hslot, rfl⟩ := controlTransfer_next h
  exact .branched hu hslot _ _ _

theorem Answers.of_linkingJump {a b : Reg} {u : State} {target : Word} {isa barrier : Bool}
    (h : linkingTransfer a b s (u.branchVia target isa barrier) = .next t) (hu : Local s u) : Answers i s t := by
  obtain ⟨-, hslot, rfl⟩ := linkingTransfer_next h
  exact .branched hu hslot _ _ _

theorem Answers.of_branchLikely {u : State} {c : Bool} {offset : BitVec 16} (hslot : s.delaySlot = none) (hu : Local s u) :
    Answers i s (u.branchLikely c offset) := by
  unfold State.branchLikely
  split
  · exact .branched hu hslot _ _ _
  · exact .nullified hu hslot _

theorem Answers.of_likely {c : Bool} {offset : BitVec 16} (h : controlTransfer s (s.branchLikely c offset) = .next t) :
    Answers i s t := by
  obtain ⟨hslot, rfl⟩ := controlTransfer_next h
  exact .of_branchLikely hslot (.refl s)

theorem Answers.of_linkingLikely {a b : Reg} {u : State} {c : Bool} {offset : BitVec 16}
    (h : linkingTransfer a b s (u.branchLikely c offset) = .next t) (hu : Local s u) : Answers i s t := by
  obtain ⟨-, hslot, rfl⟩ := linkingTransfer_next h
  exact .of_branchLikely hslot hu

/-! ## The instructions -/

/-- Every instruction answers in one of the shapes. -/
theorem exec_answers (h : exec i s = .next t) : Answers i s t := by
  cases i with
  | lb | lbu | lh | lhu | lw | lwl | lwr =>
    simp only [exec_lb, exec_lbu, exec_lh, exec_lhu, exec_lw, exec_lwl, exec_lwr] at h
    exact .of_load h fun _ _ => ⟨_, _, rfl⟩
  | ll base rt offset =>
    rw [exec_ll] at h
    obtain ⟨e, rfl⟩ | ⟨w, u, rfl | rfl, hnext⟩ := withLoad_next h
    · exact .raised e
    · exact .of_completeReg hnext (.of_eq rfl)
    · exact .of_completeReg hnext (.of_eq rfl)
  | sb | sh | sw | swl | swr => exact .of_store h
  | sc => exact .of_sc h
  | add | sub | addi => exact .of_overflow h
  | addu | subu | slt | sltu | addiu | slti | sltiu | lui | and_ | or_ | xor_ | nor_ | andi | ori | xori | sll | srl | sra
  | sllv | srlv | srav | rotr | rotrv | seb | seh | wsbh | mfhi | mflo => exact .of_register h
  | clz | clo | ext | ins => exact .of_register_or_refused h
  | nop | ssnop | sync | pref => exact .of_complete h (.refl s)
  | ehb => exact .of_complete h (.executionBarrier s)
  | mult | multu | madd | maddu | msub | msubu => exact .of_setHiLo h
  | mul => exact .of_completeReg h (.of_eq rfl)
  | div rs rt =>
    change (if _ then _ else _) = _ at h
    split at h <;> exact .of_complete h (.of_eq rfl)
  | divu rs rt =>
    change (if _ then _ else _) = _ at h
    split at h <;> exact .of_complete h (.of_eq rfl)
  | mthi | mtlo => exact .of_complete h (.of_eq rfl)
  | j | jr | jrHb | beq | bne | blez | bgtz | bltz | bgez => exact .of_jump h (.refl s)
  | jal | jalx => exact .of_jump h ((Local.refl s).setReg _ _)
  | jalr | jalrHb | bltzal | bgezal => exact .of_linkingJump h ((Local.refl s).setReg _ _)
  | beql | bnel | blezl | bgtzl | bltzl | bgezl => exact .of_likely h
  | bltzall | bgezall => exact .of_linkingLikely h ((Local.refl s).setReg _ _)
  | synci base offset =>
    cases h
    exact .synchronized base offset rfl
  | syscall | break_ | movci | cop1 | cop2 | cop1x | lwc1 | ldc1 | swc1 | sdc1 | lwc2 | ldc2 | swc2 | sdc2 =>
    exact .of_takeException h
  | tge | tgeu | tlt | tltu | teq | tne | tgei | tgeiu | tlti | tltiu | teqi | tnei => exact .of_trapIf h
  | sdbbp code =>
    obtain ⟨henter, rfl⟩ := takeDebug_next h
    exact .enteredDebug code rfl henter
  | movn rs rt rd =>
    change (if _ then _ else _) = _ at h
    split at h
    · exact .of_complete h (.refl s)
    · exact .of_register h
  | movz rs rt rd =>
    change (if _ then _ else _) = _ at h
    split at h
    · exact .of_register h
    · exact .of_complete h (.refl s)
  | rdhwr rt rd =>
    change (if _ then _ else _) = _ at h
    split at h
    · exact .of_register h
    · exact .of_takeException h
  | cache => exact .of_withCop0 h fun _ ho => .of_complete ho (.refl s)
  | mfc0 rt rd sel => exact .of_withCop0 h fun _ ho => .of_completeReg ho (.readCp0 _ s)
  | mtc0 rt rd sel =>
    refine .of_withCop0 h fun hu ho => ?_
    dsimp only at ho
    split at ho
    · cases ho
    · cases ho
      exact .wroteCp0 hu ‹_›
  | di rt =>
    refine .of_withCop0 h fun hu ho => ?_
    cases ho
    exact .setInterruptEnable hu rt false
  | ei rt =>
    refine .of_withCop0 h fun hu ho => ?_
    cases ho
    exact .setInterruptEnable hu rt true
  | rdpgpr => exact .of_withCop0 h fun _ ho => .of_register ho
  | wrpgpr => exact .of_withCop0 h fun _ ho => .of_complete ho ((Local.refl s).setRegOf _ _ _)
  | eret =>
    refine .of_withCop0 h fun hu ho => ?_
    obtain ⟨hslot, rfl⟩ := controlTransfer_next ho
    exact .returned rfl hu hslot
  | deret =>
    refine .of_withCop0 h fun hu ho => ?_
    obtain ⟨hslot, ho⟩ := outsideSlot_next ho
    split at ho
    · cases ho
      exact .returnedFromDebug rfl hu hslot
    · exact .of_takeException ho
  | wait =>
    refine .of_withCop0 h fun hu ho => ?_
    split at ho
    · cases ho
    · next hslot =>
      cases ho
      exact .waits hu (by simpa [State.inDelaySlot] using hslot)
  | tlbr | tlbwi | tlbwr | tlbp => exact .of_withCop0 h fun _ ho => nomatch ho

end Shapes

end Sys2Proof.Machine
end

section
/-!
What User mode cannot do (60_exceptions.md R510): change Coprocessor 0 without CU0 but by an exception (R430), or reach a
peripheral register (20_memory.md R134). O8 and O60 assembled from the shapes of `Answers`.
-/
namespace Sys2Proof.Machine

open Sys2Proof

/-! ## Coprocessor 0 -/

theorem State.cop0Usable_eq_false {s : State} (huser : s.userMode = true) (hcu0 : s.cp0.status.cu0 = false) :
    s.cop0Usable = false := by
  rw [Bool.eq_false_iff, ne_eq, s.cop0Usable_iff]
  simp [huser, hcu0]

/-- Settles O8: every other shape that changes Coprocessor 0 needs it usable. -/
theorem userModeKeepsCoprocessor0 : Obligations.UserModeKeepsCoprocessor0 := by
  unfold Obligations.UserModeKeepsCoprocessor0
  intro i s t huser hcu0 h
  have hunusable : s.cop0Usable ≠ true := by simp [State.cop0Usable_eq_false huser hcu0]
  cases exec_answers h with
  | raised e => exact .inr (.inl ⟨e, rfl⟩)
  | completed hu => exact .inl (by simp [hu.cp0])
  | branched hu => exact .inl (by simp [hu.cp0])
  | nullified hu => exact .inl (by simp [hu.cp0])
  | storedRam hu => exact .inl (by simp [hu.cp0])
  | storedDevice hu => exact .inl (by simp [hu.cp0])
  | synchronized => exact .inl (by simp)
  | enteredDebug code hi henter => exact .inr (.inr ⟨⟨code, hi⟩, henter, rfl⟩)
  | wroteCp0 hu | setInterruptEnable hu | returned _ hu | returnedFromDebug _ hu | waits hu => exact absurd hu hunusable

/-! ## The map -/

/-- What is at an address that useg reaches is no peripheral register, whatever the access. -/
theorem findTarget_isDevice_eq_false {pick : Region → Target} {l : List Region} {wa : Nat}
    (hpick : ∀ r : Region, (r.fetch.isDevice || r.load.isDevice || r.store.isDevice) = false → (pick r).isDevice = false)
    (hmap : l.all Region.userOk = true) (hlo : 0x40000000 ≤ wa) (hhi : wa < 0xC0000000) :
    (findTarget pick l wa).isDevice = false := by
  induction l with
  | nil => rfl
  | cons r rs ih =>
    simp only [List.all_cons, Bool.and_eq_true] at hmap
    unfold findTarget
    split
    case isFalse => exact ih hmap.2
    case isTrue hholds =>
      have hr := hmap.1
      simp only [Region.holds, Bool.and_eq_true, decide_eq_true_eq] at hholds
      simp only [Region.userOk, Bool.or_eq_true, decide_eq_true_eq, Bool.not_eq_true'] at hr
      obtain (hbase | hend) | hdevice := hr
      · omega
      · omega
      · exact hpick r hdevice

/-- An address with bit 31 clear, in User mode, names a word that useg reaches. -/
theorem wordAddr_translate_userMode {s : State} {va : Word} (huser : s.userMode = true) (hmsb : va.msb = false) :
    0x40000000 ≤ wordAddr (translate s.cp0.status.erl va) ∧ wordAddr (translate s.cp0.status.erl va) < 0xC0000000 := by
  obtain ⟨-, -, herl, -⟩ := s.userMode_iff.mp huser
  have hlt : va.toNat < 0x80000000 := by
    rw [BitVec.msb_eq_false_iff_two_mul_lt] at hmsb
    omega
  have htranslate := toNat_translate_kuseg hlt (.inl herl)
  unfold wordAddr
  omega

section UserMode
variable {s : State}

theorem loadTarget_userMode (hmap : s.cfg.userWindowOk = true) (huser : s.userMode = true) {va : Word}
    (hmsb : va.msb = false) : (loadTarget s.cfg (wordAddr (translate s.cp0.status.erl va))).isDevice = false := by
  obtain ⟨hlo, hhi⟩ := wordAddr_translate_userMode huser hmsb
  exact findTarget_isDevice_eq_false (fun r hr => by simp_all) hmap hlo hhi

theorem storeTarget_userMode (hmap : s.cfg.userWindowOk = true) (huser : s.userMode = true) {va : Word}
    (hmsb : va.msb = false) : (storeTarget s.cfg (wordAddr (translate s.cp0.status.erl va))).isDevice = false := by
  obtain ⟨hlo, hhi⟩ := wordAddr_translate_userMode huser hmsb
  exact findTarget_isDevice_eq_false (fun r hr => by simp_all) hmap hlo hhi

theorem fetchTarget_userMode (hmap : s.cfg.userWindowOk = true) (huser : s.userMode = true) {va : Word}
    (hmsb : va.msb = false) : (fetchTarget s.cfg (wordAddr (translate s.cp0.status.erl va))).isDevice = false := by
  obtain ⟨hlo, hhi⟩ := wordAddr_translate_userMode huser hmsb
  exact findTarget_isDevice_eq_false (fun r hr => by simp_all) hmap hlo hhi

/-- Only a store to a peripheral register changes one, and User mode makes none. -/
theorem exec_devRegs_userMode (hmap : s.cfg.userWindowOk = true) (huser : s.userMode = true) {i : Instr} {t : State}
    (h : exec i s = .next t) : t.devRegs = s.devRegs := by
  cases exec_answers h with
  | raised e => simp
  | completed hu => simp [hu.devRegs]
  | branched hu => simp [hu.devRegs]
  | nullified hu => simp [hu.devRegs]
  | storedRam hu => simp [hu.devRegs]
  | storedDevice hu w hok htarget =>
    have hdevice := storeTarget_userMode hmap huser (hok.privileged huser)
    rw [← hok.translated, htarget] at hdevice
    cases hdevice
  | synchronized => simp
  | enteredDebug => simp
  | wroteCp0 => simp
  | setInterruptEnable => simp [State.setInterruptEnable]
  | returned => simp
  | returnedFromDebug => simp
  | waits => simp

end UserMode

/-- Settles O60: useg reaches no region with a peripheral register, and only a store there changes one. -/
theorem userModeReachesNoPeripheral : Obligations.UserModeReachesNoPeripheral := by
  unfold Obligations.UserModeReachesNoPeripheral
  rintro s ⟨-, -, -, -, -, -, -, hmap⟩ huser
  refine ⟨fun n va pa hok => ?_, fetchTarget_userMode hmap huser, fun i t => exec_devRegs_userMode hmap huser⟩
  have hmsb := hok.privileged huser
  rw [hok.translated]
  exact ⟨loadTarget_userMode hmap huser hmsb, storeTarget_userMode hmap huser hmsb⟩

end Sys2Proof.Machine
end

section
/-!
The marks on stored words (20_memory.md R149): what a store, SYNCI and a barrier do to them, and that nothing else touches
one. O29 assembled from these and the shapes of `Answers`.
-/
namespace Sys2Proof.Machine

open Sys2Proof

/-! ## The marks when an instruction is complete -/

section Advance
variable {s : State} {wa : Nat}

/-- An instruction that completes keeps the marks, or ends the delay slot of a barrier jump. -/
theorem State.advance_codeWords_cases (s : State) : s.advance.codeWords = s.codeWords ∨
    (s.advance.codeWords = settleCode s.codeWords ∧ ∃ d, s.delaySlot = some d ∧ d.barrier = true) := by
  cases hslot : s.delaySlot with
  | none => exact .inl (by simp [State.advance_of_none hslot])
  | some d =>
    cases hbarrier : d.barrier with
    | false => exact .inl (by simp [State.advance_of_some hslot hbarrier])
    | true => exact .inr ⟨by simp [State.advance_of_barrier hslot hbarrier], d, rfl, hbarrier⟩

theorem codeStateAt_advance_stored (h : codeStateAt s.codeWords wa = .stored) :
    codeStateAt s.advance.codeWords wa = .stored := by
  obtain hsame | ⟨hsettled, -⟩ := s.advance_codeWords_cases
  · rw [hsame, h]
  · rw [hsettled, codeStateAt_settleCode_keeps _ (by simp [h]), h]

theorem codeStateAt_advance_synced (h : codeStateAt s.codeWords wa = .synced) :
    codeStateAt s.advance.codeWords wa = .synced ∨ ∃ d, s.delaySlot = some d ∧ d.barrier = true := by
  obtain hsame | ⟨-, hbarrier⟩ := s.advance_codeWords_cases
  · exact .inl (hsame ▸ h)
  · exact .inr hbarrier

end Advance

/-! ## What any instruction does to a mark -/

/-- From `s` to `t` instruction `i` keeps the mark at `wa`, but for what SYNCI, a store and a barrier do. -/
def KeepsMark (i : Instr) (s t : State) (wa : Nat) : Prop :=
  (codeStateAt s.codeWords wa = .stored → codeStateAt t.codeWords wa = .stored ∨
    (codeStateAt t.codeWords wa = .synced ∧ ∃ base offset, i = .synci base offset ∧
      wa = wordAddr (translate s.cp0.status.erl (s.effectiveAddress base offset)))) ∧
  (codeStateAt s.codeWords wa = .synced → codeStateAt t.codeWords wa = .synced ∨ codeStateAt t.codeWords wa = .stored ∨
    i = .eret ∨ i = .deret ∨ ∃ d, s.delaySlot = some d ∧ d.barrier = true)

section KeepsMark
variable {i : Instr} {s t : State} {wa : Nat}

theorem KeepsMark.of_eq (h : t.codeWords = s.codeWords) : KeepsMark i s t wa :=
  ⟨fun hs => .inl (h ▸ hs), fun hs => .inl (h ▸ hs)⟩

theorem KeepsMark.of_advance (h : t.codeWords = s.advance.codeWords) : KeepsMark i s t wa := by
  refine ⟨fun hs => .inl (h ▸ codeStateAt_advance_stored hs), fun hs => ?_⟩
  obtain hsynced | hbarrier := codeStateAt_advance_synced hs
  · exact .inl (h ▸ hsynced)
  · exact .inr (.inr (.inr (.inr hbarrier)))

theorem KeepsMark.of_settle (h : t.codeWords = settleCode s.codeWords) (hi : i = .eret ∨ i = .deret) :
    KeepsMark i s t wa := by
  refine ⟨fun hs => .inl ?_, fun _ => .inr (.inr (hi.imp_right .inl))⟩
  rw [h, codeStateAt_settleCode_keeps _ (by simp [hs]), hs]

theorem KeepsMark.of_storeRam {u : State} (h : u.codeWords = s.advance.codeWords) (wa' : Nat) (w : LaneStore) :
    KeepsMark i s (u.storeRam wa' w) wa := by
  have hu : KeepsMark i s u wa := .of_advance h
  have hmark : codeStateAt (u.storeRam wa' w).codeWords wa = if wa = wa' then .stored else codeStateAt u.codeWords wa :=
    codeStateAt_markCode u.codeWords wa' .stored wa
  unfold KeepsMark
  rw [hmark]
  split
  · exact ⟨fun _ => .inl rfl, fun _ => .inr (.inl rfl)⟩
  · exact hu

theorem KeepsMark.of_synci {base : Reg} {offset : BitVec 16} (hi : i = .synci base offset)
    (h : t.codeWords = syncCode s.advance.codeWords
      (wordAddr (translate s.cp0.status.erl (s.effectiveAddress base offset)))) : KeepsMark i s t wa := by
  have hadvance : KeepsMark i s s.advance wa := .of_advance rfl
  unfold KeepsMark at hadvance ⊢
  rw [h, codeStateAt_syncCode]
  split
  · next hstored => exact ⟨fun _ => .inr ⟨rfl, base, offset, hi, hstored.2⟩, fun _ => .inl rfl⟩
  · exact hadvance

/-- An instruction keeps a mark but for SYNCI, a store and a barrier. -/
theorem exec_keepsMark (h : exec i s = .next t) : KeepsMark i s t wa := by
  cases exec_answers h with
  | raised e => exact .of_eq (by simp)
  | completed hu => exact .of_advance (State.advance_codeWords_of_eq hu.delaySlot hu.codeWords)
  | branched hu => exact .of_eq (by simp [hu.codeWords])
  | nullified hu => exact .of_eq (by simp [hu.codeWords])
  | storedRam hu => exact .of_storeRam (State.advance_codeWords_of_eq hu.delaySlot hu.codeWords) _ _
  | storedDevice hu => exact .of_advance (by simp [State.advance_codeWords_of_eq hu.delaySlot hu.codeWords])
  | synchronized base offset hi => exact .of_synci hi rfl
  | enteredDebug => exact .of_eq (by simp)
  | wroteCp0 => exact .of_advance rfl
  | setInterruptEnable hu rt b => exact .of_advance (s.setInterruptEnable_frame rt b).code
  | returned hi => exact .of_settle rfl (.inl hi)
  | returnedFromDebug hi => exact .of_settle rfl (.inr hi)
  | waits => exact .of_advance rfl

end KeepsMark

/-! ## Stores, fetches and SYNCI -/

/-- A store to RAM marks its word, after the instruction is complete. -/
theorem codeStateAt_of_withStore {i : Instr} {n : Nat} {va pa : Word} {w : LaneStore} {s t : State} {k : State → State}
    (he : exec i s = withStore n va w s k) (hk : (k s).codeWords = s.advance.codeWords) (hok : AccessOk n va s pa)
    (hram : storeTarget s.cfg (wordAddr pa) = .ram) (h : exec i s = .next t) (wa : Nat) :
    codeStateAt t.codeWords wa = if wa = wordAddr pa then .stored else codeStateAt s.advance.codeWords wa := by
  rw [he, withStore_ram w k hok hram] at h
  cases h
  rw [State.storeRam_codeWords, codeStateAt_markCode, hk]

theorem exec_sc_of_llbit {base rt : Reg} {offset : BitVec 16} {s : State} (h : s.llbit = true) :
    exec (.sc base rt offset) s =
      withStore 4 (s.effectiveAddress base offset) (laneWord (s.reg rt)) s (afterStoreConditional rt 1#32) := if_pos h

theorem afterStoreConditional_codeWords (rt : Reg) (r : Word) (s : State) :
    (afterStoreConditional rt r s).codeWords = s.advance.codeWords :=
  have hu := Local.storeConditional s rt r
  State.advance_codeWords_of_eq hu.delaySlot hu.codeWords

section Fetch
variable {s : State} {wa : Nat}

theorem fetchStorage_of_visible (h : s.cfg.fetchCoherence = .always ∨ codeStateAt s.codeWords wa = .clean) :
    fetchStorage s wa = .word (readWord s.mem wa) := by
  unfold fetchStorage fetchCoherent
  rcases h with h | h
  · simp [h]
  · cases hc : s.cfg.fetchCoherence <;> simp [h]

theorem fetchStorage_of_unsynchronized (hc : s.cfg.fetchCoherence = .barrier)
    (h : codeStateAt s.codeWords wa = .stored ∨ codeStateAt s.codeWords wa = .synced) :
    fetchStorage s wa = .stop (.refused .fetchNotSynchronized) := by
  unfold fetchStorage fetchCoherent
  rcases h with h | h <;> simp [hc, h]

theorem fetchStorage_of_foreign (hc : s.cfg.fetchCoherence = .barrier) (h : codeStateAt s.codeWords wa = .foreign) :
    fetchStorage s wa = .stop (.refused .fetchForeignCode) := by
  unfold fetchStorage fetchCoherent
  simp [hc, h]

end Fetch

/-- SYNCI is complete at every address, and synchronizes the word there. -/
theorem completes_synci (base : Reg) (offset : BitVec 16) (s : State) : Completes (.synci base offset) s fun t =>
    SameRegs s t ∧ SameAcc s t ∧ SystemSame s t ∧ MovesOn s t ∧
    ∀ wa, codeStateAt t.codeWords wa =
      if codeStateAt s.advance.codeWords wa = .stored ∧
          wa = wordAddr (translate s.cp0.status.erl (s.effectiveAddress base offset)) then .synced
      else codeStateAt s.advance.codeWords wa := by
  have hadvance := NoEffect.advance s
  have hsystem := hadvance.system
  have hmoves := hadvance.moves
  exact ⟨_, rfl, hadvance.regs, hadvance.acc,
    ⟨hsystem.llbit, hsystem.waiting, hsystem.cp0, hsystem.mem, hsystem.devRegs, hsystem.intReq, hsystem.schedule,
      hsystem.cfg⟩,
    ⟨hmoves.pc, hmoves.isaMode, hmoves.delaySlot, hmoves.hazards, hmoves.staleStatus⟩,
    codeStateAt_syncCode _ _⟩

/-! ## Barriers -/

theorem State.cop0Usable_inDebug {s : State} (h : s.cp0.dbg.dm = true) : s.cop0Usable = true := by
  simp [State.cop0Usable, cop0UsableIn, inUserMode, h]

/-- ERET, DERET in Debug mode and the end of the delay slot of a barrier jump settle the marks. -/
theorem codeWords_of_barrier {s t : State} (h : (s.cop0Usable = true ∧ exec .eret s = .next t) ∨
    (s.cp0.dbg.dm = true ∧ exec .deret s = .next t) ∨
    ((∃ d, s.delaySlot = some d ∧ d.barrier = true) ∧ t = s.advance)) : t.codeWords = settleCode s.codeWords := by
  obtain ⟨hu, h⟩ | ⟨hdm, h⟩ | ⟨⟨d, hslot, hbarrier⟩, rfl⟩ := h
  · rw [exec_eret hu] at h
    cases (outsideSlot_next h).2
    rfl
  · rw [exec_deret (State.cop0Usable_inDebug hdm), if_pos hdm] at h
    cases (outsideSlot_next h).2
    rfl
  · simp [State.advance_of_barrier hslot hbarrier]

/-- Settles O29: what a store, a fetch, SYNCI, a barrier and any instruction do with a mark. -/
theorem storedCodeNeedsSynchronization : Obligations.StoredCodeNeedsSynchronization := by
  unfold Obligations.StoredCodeNeedsSynchronization
  refine ⟨?stores, fun s wa => ⟨fetchStorage_of_visible, fun hc => ⟨fetchStorage_of_unsynchronized hc,
    fetchStorage_of_foreign hc⟩⟩, completes_synci, fun s t hinv h wa => ?barriers, fun i s t wa h => exec_keepsMark h⟩
  case stores =>
    intro base rt offset s t pa hram
    simp only [List.forall_mem_cons]
    refine ⟨?_, ?_, ?_, ?_, ?_, ?_, List.forall_mem_nil _⟩
    · exact fun hok _ => codeStateAt_of_withStore (exec_sb ..) rfl hok hram
    · exact fun hok _ => codeStateAt_of_withStore (exec_sh ..) rfl hok hram
    · exact fun hok _ => codeStateAt_of_withStore (exec_sw ..) rfl hok hram
    · exact fun hok _ => codeStateAt_of_withStore (exec_swl ..) rfl hok hram
    · exact fun hok _ => codeStateAt_of_withStore (exec_swr ..) rfl hok hram
    · exact fun hok hll =>
        codeStateAt_of_withStore (exec_sc_of_llbit (hll trivial)) (afterStoreConditional_codeWords _ _ _) hok hram
  case barriers =>
    obtain ⟨-, hcanonical, -⟩ := hinv
    simp only [canonicalStores, Bool.and_eq_true] at hcanonical
    rw [codeWords_of_barrier h, codeStateAt_settleCode hcanonical.2]

end Sys2Proof.Machine
end

section
/-!
The invariant of the machine (Safety.lean): its clauses as propositions, what keeps each of them, and O5 and O6 assembled
from the shapes of `Answers` and the events of the environment.
-/
namespace Sys2Proof.Machine

open Sys2Proof

/-! ## The invariant clause by clause -/

/-- What the invariant asks of Coprocessor 0, under the parameters. -/
structure Cp0Legal (cfg : Config) (c : Cp0) : Prop where
  ess : c.srs.ess ≤ cfg.shadowSets.hss
  pss : c.srs.pss ≤ cfg.shadowSets.hss
  css : c.srs.css ≤ cfg.shadowSets.hss
  fields : legalFields c = true
  debugMode : cfg.debugEntry = .enter ∨ c.dbg.dm = false

/-- The clauses of `State.Inv`. -/
structure WellFormed (s : State) : Prop where
  zero : ∀ set, s.gprs[gprIndex set 0#5] = 0#32
  mem : Memory.wf s.mem = true
  devRegs : sparseCanonical 0#32 s.devRegs = true
  codeWords : sparseCanonical CodeState.clean s.codeWords = true
  cp0 : Cp0Legal s.cfg s.cp0
  eicss : s.intReq.eicss ≤ s.cfg.shadowSets.hss
  slot : ∀ d, s.delaySlot = some d → d.branch + 4#32 = s.pc ∧ s.waiting = false
  hazards : hazardsOk s.hazards = true
  map : s.cfg.userWindowOk = true

theorem zeroRegisters_iff (s : State) : zeroRegisters s = true ↔ ∀ set, s.gprs[gprIndex set 0#5] = 0#32 := by
  have hsets : ∀ set : SetNum, set ∈ [0#2, 1#2, 2#2, 3#2] := by decide
  simp only [zeroRegisters, List.all_eq_true, beq_iff_eq]
  exact ⟨fun h set => h set (hsets set), fun h set _ => h set⟩

theorem slotOk_iff (s : State) : slotOk s = true ↔
    ∀ d, s.delaySlot = some d → d.branch + 4#32 = s.pc ∧ s.waiting = false := by
  unfold slotOk
  cases s.delaySlot <;> simp

theorem inv_iff (s : State) : s.Inv ↔ WellFormed s := by
  simp only [State.Inv, zeroRegisters_iff, slotOk_iff, canonicalStores, legalSets, debugModeOk, Bool.and_eq_true,
    Bool.or_eq_true, decide_eq_true_eq, Bool.not_eq_true']
  constructor
  · rintro ⟨hzero, ⟨⟨hmem, hdev⟩, hcode⟩, ⟨⟨⟨hess, hpss⟩, hcss⟩, heicss⟩, hfields, hslot, hhazards, hdebug, hmap⟩
    exact ⟨hzero, hmem, hdev, hcode, ⟨hess, hpss, hcss, hfields, hdebug⟩, heicss, hslot, hhazards, hmap⟩
  · rintro ⟨hzero, hmem, hdev, hcode, ⟨hess, hpss, hcss, hfields, hdebug⟩, heicss, hslot, hhazards, hmap⟩
    exact ⟨hzero, ⟨⟨hmem, hdev⟩, hcode⟩, ⟨⟨⟨hess, hpss⟩, hcss⟩, heicss⟩, hfields, hslot, hhazards, hdebug, hmap⟩

/-- Settles O6: the reset state is closed, and its invariant computes. -/
theorem resetMeetsTheInvariant : Obligations.ResetMeetsTheInvariant := by
  unfold Obligations.ResetMeetsTheInvariant
  exact ⟨by decide, reset_canonicalStores, by decide, by decide, by decide, by decide, by decide, by decide⟩

/-! ## Coprocessor 0 -/

section Cp0Legal
variable {cfg : Config} {c : Cp0}

/-- A write of other fields. -/
theorem Cp0Legal.of_same (h : Cp0Legal cfg c) {c' : Cp0} (hsrs : c'.srs = c.srs) (hfields : legalFields c' = legalFields c)
    (hdm : c'.dbg.dm = c.dbg.dm) : Cp0Legal cfg c' :=
  ⟨hsrs ▸ h.ess, hsrs ▸ h.pss, hsrs ▸ h.css, hfields ▸ h.fields, hdm ▸ h.debugMode⟩

theorem Exc.clearPending_dm (e : Exc) (d : Debug) : (e.clearPending d).dm = d.dm := by cases e <;> rfl

/-- The entry of an exception takes the current set from SRSCtl or from the interrupt controller. -/
theorem Cp0Legal.exceptionCp0 {s : State} (h : Cp0Legal s.cfg s.cp0)
    (heicss : s.intReq.eicss ≤ s.cfg.shadowSets.hss) (e : Exc) : Cp0Legal s.cfg (exceptionCp0 e s) := by
  have hsets : (exceptionSets e s.cp0 s.intReq).ess ≤ s.cfg.shadowSets.hss ∧
      (exceptionSets e s.cp0 s.intReq).pss ≤ s.cfg.shadowSets.hss ∧
      (exceptionSets e s.cp0 s.intReq).css ≤ s.cfg.shadowSets.hss := by
    unfold exceptionSets entrySet
    split
    · next set hset =>
      split at hset
      · cases hset
        refine ⟨h.ess, h.css, ?_⟩
        dsimp only
        split
        · exact heicss
        · exact h.ess
      · cases hset
    · exact ⟨h.ess, h.pss, h.css⟩
  obtain ⟨hess, hpss, hcss⟩ := hsets
  refine ⟨hess, hpss, hcss, h.fields, ?_⟩
  rw [show (Machine.exceptionCp0 e s).dbg = e.clearPending s.cp0.dbg from rfl, Exc.clearPending_dm]
  exact h.debugMode

/-- A 4-bit set number that exists is held whole in two bits (log entry 31). -/
theorem setField_le {hss : SetNum} {v : Word} {lsb : Nat} (h : setFieldOk hss v lsb = true) :
    v.extractLsb' lsb 2 ≤ hss := by
  simp only [setFieldOk, decide_eq_true_eq, BitVec.extractLsb'_toNat] at h
  rw [BitVec.le_def, BitVec.extractLsb'_toNat]
  omega

theorem traceControl_legal (v : Word) :
    (((v &&& traceControlMask) ||| 0x00000010#32) &&& ~~~traceControlMask == 0x00000010#32) = true := by
  have hmask : v &&& traceControlMask &&& ~~~traceControlMask = 0#32 := by
    rw [BitVec.and_assoc, show traceControlMask &&& ~~~traceControlMask = 0#32 by decide, BitVec.and_zero]
  have hconst : 0x00000010#32 &&& ~~~traceControlMask = 0x00000010#32 := by decide
  rw [beq_iff_eq, BitVec.and_or_distrib_right, hmask, hconst, BitVec.zero_or]

theorem traceBPC_legal (v : Word) : (v &&& traceBPCMask &&& ~~~traceBPCMask == 0#32) = true := by
  rw [beq_iff_eq, BitVec.and_assoc, show traceBPCMask &&& ~~~traceBPCMask = 0#32 by decide, BitVec.and_zero]

theorem legalFields_iff (c : Cp0) : legalFields c = true ↔ legalSpacing c.vs = true ∧ legalCoherency c.ku = true ∧
    legalCoherency c.k0 = true ∧ (c.traceControl &&& ~~~traceControlMask == 0x00000010#32) = true ∧
    (c.traceBPC &&& ~~~traceBPCMask == 0#32) = true := by
  simp only [legalFields, Bool.and_eq_true, and_assoc]

/-- MTC0 refuses the values that would break a clause (R432, U2 to U5). -/
theorem Cp0Legal.writeCp0 {s : State} (h : Cp0Legal s.cfg s.cp0) {r : Cp0Reg} {v : Word}
    (hwrite : writeCp0 r v s = .ok c) : Cp0Legal s.cfg c := by
  obtain ⟨hvs, hku, hk0, htrace, hbpc⟩ := (legalFields_iff s.cp0).mp h.fields
  cases r
  case status | ebase =>
    simp only [Machine.writeCp0] at hwrite
    split at hwrite
    · cases hwrite
    · cases hwrite
      exact h.of_same rfl rfl rfl
  case intCtl =>
    simp only [Machine.writeCp0] at hwrite
    split at hwrite
    · next hlegal =>
      cases hwrite
      exact ⟨h.ess, h.pss, h.css, (legalFields_iff _).mpr ⟨hlegal, hku, hk0, htrace, hbpc⟩, h.debugMode⟩
    · cases hwrite
  case srsCtl =>
    simp only [Machine.writeCp0] at hwrite
    split at hwrite
    · next hsets =>
      cases hwrite
      rw [Bool.and_eq_true] at hsets
      exact ⟨setField_le hsets.1, setField_le hsets.2, h.css, h.fields, h.debugMode⟩
    · cases hwrite
  case srsMap =>
    simp only [Machine.writeCp0] at hwrite
    split at hwrite
    · cases hwrite
    · split at hwrite
      · cases hwrite
        exact h.of_same rfl rfl rfl
      · cases hwrite
  case config =>
    simp only [Machine.writeCp0] at hwrite
    split at hwrite
    · next hlegal =>
      cases hwrite
      rw [Bool.and_eq_true] at hlegal
      exact ⟨h.ess, h.pss, h.css, (legalFields_iff _).mpr ⟨hvs, hlegal.1, hlegal.2, htrace, hbpc⟩, h.debugMode⟩
    · cases hwrite
  case debugReg =>
    simp only [Machine.writeCp0] at hwrite
    split at hwrite
    · cases hwrite
      exact h.of_same rfl rfl rfl
    · cases hwrite
  case traceControl =>
    cases hwrite
    exact ⟨h.ess, h.pss, h.css, (legalFields_iff _).mpr ⟨hvs, hku, hk0, traceControl_legal v, hbpc⟩, h.debugMode⟩
  case traceBPC =>
    cases hwrite
    exact ⟨h.ess, h.pss, h.css, (legalFields_iff _).mpr ⟨hvs, hku, hk0, htrace, traceBPC_legal v⟩, h.debugMode⟩
  all_goals
    cases hwrite
    exact h.of_same rfl rfl rfl

/-- The fields that a reset forces take legal values. -/
theorem Cp0Legal.resetCp0 (s : State) (cfg : Config) : Cp0Legal cfg (resetCp0 s) := by
  have hzero : 0#2 ≤ cfg.shadowSets.hss := by simp [BitVec.le_def]
  have hfields : legalFields (Machine.resetCp0 s) = legalFields Cp0.reset := rfl
  exact ⟨hzero, hzero, hzero, hfields.trans (by decide), .inr rfl⟩

end Cp0Legal

/-! ## The scoreboard -/

theorem hazardsOk_append {l m : List Hazard} (hl : hazardsOk l = true) (hm : hazardsOk m = true) :
    hazardsOk (l ++ m) = true := by
  simp_all [hazardsOk]

/-- No row of Table 2-1 has a larger spacing. -/
theorem createdHazards_ok (r : Cp0Reg) (s t : State) : hazardsOk (createdHazards r s t) = true := by
  have hnamed : hazardsOk (namedRows r s t) = true := by
    unfold namedRows
    split
    case h_1 => exact hazardsOk_append (by split <;> rfl) (by split <;> rfl)
    all_goals (try split) <;> rfl
  refine hazardsOk_append ?_ (by split <;> rfl)
  split
  · rfl
  · exact hnamed

/-! ## Updates of the state -/

section Updates
variable {s : State}

theorem WellFormed.of_local (h : WellFormed s) {u : State} (hu : Local s u) : WellFormed u where
  zero := hu.zero h.zero
  mem := hu.mem ▸ h.mem
  devRegs := hu.devRegs ▸ h.devRegs
  codeWords := hu.codeWords ▸ h.codeWords
  cp0 := hu.cp0 ▸ hu.cfg ▸ h.cp0
  eicss := hu.intReq ▸ hu.cfg ▸ h.eicss
  slot := hu.delaySlot ▸ hu.pc ▸ hu.waiting ▸ h.slot
  hazards := by
    obtain hsame | hnone := hu.hazards
    · exact hsame ▸ h.hazards
    · rw [hnone]
      rfl
  map := hu.cfg ▸ h.map

theorem WellFormed.drawn (h : WellFormed s) (n : Nat) : WellFormed (s.drawn n) := h.of_local (.of_eq rfl)

theorem WellFormed.awake (h : WellFormed s) : WellFormed { s with waiting := false } :=
  ⟨h.zero, h.mem, h.devRegs, h.codeWords, h.cp0, h.eicss, fun d hd => ⟨(h.slot d hd).1, rfl⟩, h.hazards, h.map⟩

theorem WellFormed.withSchedule (h : WellFormed s) (es : List EnvEvent) : WellFormed { s with schedule := es } :=
  ⟨h.zero, h.mem, h.devRegs, h.codeWords, h.cp0, h.eicss, h.slot, h.hazards, h.map⟩

theorem WellFormed.ticked (h : WellFormed s) : WellFormed s.ticked :=
  ⟨h.zero, h.mem, h.devRegs, h.codeWords, h.cp0, h.eicss, h.slot, tickHazards_ok _ h.hazards, h.map⟩

theorem WellFormed.withCp0 (h : WellFormed s) {c : Cp0} (hc : Cp0Legal s.cfg c) : WellFormed (s.withCp0 c) :=
  ⟨h.zero, h.mem, h.devRegs, h.codeWords, hc, h.eicss, h.slot, h.hazards, h.map⟩

theorem WellFormed.withCodeWords (h : WellFormed s) {l : List (Nat × CodeState)}
    (hl : sparseCanonical CodeState.clean l = true) : WellFormed { s with codeWords := l } :=
  ⟨h.zero, h.mem, h.devRegs, hl, h.cp0, h.eicss, h.slot, h.hazards, h.map⟩

theorem WellFormed.withDevice (h : WellFormed s) (reg : Nat) (v : Word) :
    WellFormed { s with devRegs := devicePut s.devRegs reg v } :=
  ⟨h.zero, h.mem, devicePut_canonical _ _ _ h.devRegs, h.codeWords, h.cp0, h.eicss, h.slot, h.hazards, h.map⟩

theorem WellFormed.writeRam (h : WellFormed s) (wa : Nat) (w : LaneStore) (mark : CodeState) : WellFormed { s with
    mem := writeLanes s.mem wa w.enable w.data
    codeWords := markCode s.codeWords wa mark } :=
  ⟨h.zero, writeLanes_wf _ _ _ _ h.mem, h.devRegs, markCode_canonical _ _ _ h.codeWords, h.cp0, h.eicss, h.slot,
    h.hazards, h.map⟩

/-- Execution goes on elsewhere, with no pending branch. -/
theorem WellFormed.redirect (h : WellFormed s) (target : Word) (isa : Bool) : WellFormed (s.redirect target isa) :=
  ⟨h.zero, h.mem, h.devRegs, h.codeWords, h.cp0, h.eicss, fun _ hd => (nomatch hd), rfl, h.map⟩

theorem WellFormed.fullBarrier (h : WellFormed s) : WellFormed s.fullBarrier :=
  ⟨h.zero, h.mem, h.devRegs, settleCode_canonical _ h.codeWords, h.cp0, h.eicss, h.slot, rfl, h.map⟩

/-- Execution moves on, and no branch is pending any more. -/
theorem WellFormed.advance (h : WellFormed s) : WellFormed s.advance := by
  have hmoved (pc : Word) (isa : Bool) : WellFormed { s with pc := pc, isaMode := isa, delaySlot := none } :=
    ⟨h.zero, h.mem, h.devRegs, h.codeWords, h.cp0, h.eicss, fun _ hd => (nomatch hd), h.hazards, h.map⟩
  cases hslot : s.delaySlot with
  | none =>
    rw [State.advance_of_none hslot]
    have hnext := hmoved (s.pc + 4#32) s.isaMode
    rwa [← hslot] at hnext
  | some d =>
    cases hbarrier : d.barrier with
    | false => exact State.advance_of_some hslot hbarrier ▸ hmoved d.target d.isa
    | true => exact State.advance_of_barrier hslot hbarrier ▸ (hmoved d.target d.isa).fullBarrier

theorem WellFormed.branchVia (h : WellFormed s) (hw : s.waiting = false) (target : Word) (isa barrier : Bool) :
    WellFormed (s.branchVia target isa barrier) :=
  ⟨h.zero, h.mem, h.devRegs, h.codeWords, h.cp0, h.eicss, fun _ hd => Option.some.inj hd ▸ ⟨rfl, hw⟩, h.hazards, h.map⟩

theorem WellFormed.goto (h : WellFormed s) (hslot : s.delaySlot = none) (target : Word) : WellFormed (s.goto target) :=
  ⟨h.zero, h.mem, h.devRegs, h.codeWords, h.cp0, h.eicss, fun _ hd => (nomatch hslot.symm.trans hd), h.hazards, h.map⟩

theorem WellFormed.waits (h : WellFormed s) (hslot : s.delaySlot = none) : WellFormed { s with waiting := true } :=
  ⟨h.zero, h.mem, h.devRegs, h.codeWords, h.cp0, h.eicss, fun _ hd => (nomatch hslot.symm.trans hd), h.hazards, h.map⟩

theorem WellFormed.withHazards (h : WellFormed s) {l : List Hazard} (hl : hazardsOk l = true) (stale : List Status) :
    WellFormed { s with hazards := l, staleStatus := stale } :=
  ⟨h.zero, h.mem, h.devRegs, h.codeWords, h.cp0, h.eicss, h.slot, hl, h.map⟩

/-! ## Exceptions, debug exceptions, returns, NMI and reset -/

theorem WellFormed.raise (h : WellFormed s) (e : Exc) : WellFormed (raise e s) := by
  unfold Machine.raise
  split
  · have hc : Cp0Legal s.cfg (reenterDebug e s).cp0 := h.cp0.of_same rfl rfl (e.clearPending_dm s.cp0.dbg)
    exact (WellFormed.redirect (h.withCp0 hc) _ _).drawn 2
  · exact (WellFormed.redirect (h.withCp0 (h.cp0.exceptionCp0 h.eicss e)) _ _).drawn e.draws

theorem WellFormed.enterDebug (h : WellFormed s) (henter : s.cfg.debugEntry = .enter) (c : DebugCause) :
    WellFormed (enterDebug c s) :=
  have hc : Cp0Legal s.cfg (Machine.enterDebug c s).cp0 := ⟨h.cp0.ess, h.cp0.pss, h.cp0.css, h.cp0.fields, .inl henter⟩
  (WellFormed.redirect (h.awake.withCp0 hc) _ _).drawn 3

theorem WellFormed.returnFromException (h : WellFormed s) : WellFormed (returnFromException s) := by
  have hlegal (b : Bool) : Cp0Legal s.cfg { s.cp0 with
      status := { s.cp0.status with exl := false }
      srs := if b then s.cp0.srs else { s.cp0.srs with css := s.cp0.srs.pss } } := by
    cases b
    · exact ⟨h.cp0.ess, h.cp0.pss, h.cp0.pss, h.cp0.fields, h.cp0.debugMode⟩
    · exact h.cp0.of_same rfl rfl rfl
  have hreturn {c : Cp0} (hc : Cp0Legal s.cfg c) (target : Word) (isa : Bool) :
      WellFormed ({ s with cp0 := c, llbit := false }.fullBarrier.redirect target isa) :=
    (WellFormed.fullBarrier ((h.of_local (.of_eq (llbit := false) rfl)).withCp0 hc)).redirect target isa
  unfold Machine.returnFromException
  refine hreturn ?_ _ _
  split
  · exact h.cp0.of_same rfl rfl rfl
  · exact hlegal s.cp0.status.bev

theorem WellFormed.returnFromDebug (h : WellFormed s) : WellFormed (returnFromDebug s) :=
  have hc : Cp0Legal s.cfg (Machine.returnFromDebug s).cp0 := ⟨h.cp0.ess, h.cp0.pss, h.cp0.css, h.cp0.fields, .inr rfl⟩
  (WellFormed.fullBarrier (h.withCp0 hc)).redirect _ _

theorem WellFormed.enterNmi (h : WellFormed s) : WellFormed (enterNmi s) :=
  have hc : Cp0Legal s.cfg (Machine.enterNmi s).cp0 := h.cp0.of_same rfl rfl rfl
  WellFormed.redirect (h.awake.withCp0 hc) _ _

theorem WellFormed.enterReset (h : WellFormed s) : WellFormed (enterReset s) :=
  WellFormed.redirect (h.awake.withCp0 (.resetCp0 s s.cfg)) _ _

theorem WellFormed.noteWrite (h : WellFormed s) {r : Cp0Reg} {v : Word} {c : Cp0} (hwrite : writeCp0 r v s = .ok c) :
    WellFormed (noteWrite r s (s.advance.withCp0 c)) := by
  have hcfg : s.advance.cfg = s.cfg := by simp
  have hwritten : WellFormed (s.advance.withCp0 c) := h.advance.withCp0 (hcfg ▸ h.cp0.writeCp0 hwrite)
  exact hwritten.withHazards (hazardsOk_append (createdHazards_ok _ _ _) hwritten.hazards) _

theorem WellFormed.setInterruptEnable (h : WellFormed s) (rt : Reg) (b : Bool) :
    WellFormed (s.setInterruptEnable rt b) := by
  have hc : Cp0Legal s.cfg (s.cp0.withIe b) := h.cp0.of_same rfl rfl rfl
  have hread : WellFormed (s.setReg rt (s.cp0Word .status)).advance := (h.of_local ((Local.refl s).setReg _ _)).advance
  have hwritten : WellFormed ((s.setReg rt (s.cp0Word .status)).advance.withCp0 (s.cp0.withIe b)) :=
    hread.withCp0 (by simpa using hc)
  unfold State.setInterruptEnable noteInterruptEnable
  split
  · exact hwritten
  · exact hwritten.withHazards (by simpa [hazardsOk, hazardEntry] using hwritten.hazards) _

end Updates

/-! ## One step -/

section Step
variable {s t : State}

/-- An instruction keeps the invariant; the core does not wait while it executes one. -/
theorem WellFormed.exec (h : WellFormed s) (hw : s.waiting = false) {i : Instr} (hexec : exec i s = .next t) :
    WellFormed t := by
  cases exec_answers hexec with
  | raised e => exact h.raise e
  | completed hu => exact (h.of_local hu).advance
  | branched hu => exact (h.of_local hu).branchVia (hu.waiting ▸ hw) _ _ _
  | nullified hu hslot => exact (h.of_local hu).goto (hu.delaySlot ▸ hslot) _
  | storedRam hu wa w => exact (h.of_local hu).advance.writeRam wa w .stored
  | storedDevice hu => exact (h.of_local hu).advance.withDevice _ _
  | synchronized => exact h.advance.withCodeWords (syncCode_canonical _ _ h.advance.codeWords)
  | enteredDebug code hi henter => exact h.enterDebug henter .dbp
  | wroteCp0 hu hwrite => exact h.noteWrite hwrite
  | setInterruptEnable hu rt b => exact h.setInterruptEnable rt b
  | returned => exact h.returnFromException
  | returnedFromDebug => exact h.returnFromDebug
  | waits => exact h.advance.waits s.advance_delaySlot

/-- What the core's step comes to where it answers: an exception, or an instruction. -/
def RaisesOrRuns (s t : State) : Prop := (∃ e, t = raise e s) ∨ ∃ i, exec i s = .next t

theorem RaisesOrRuns.of_takeException {e : Exc} (h : takeException e s = .next t) : RaisesOrRuns s t :=
  .inl ⟨e, (takeException_next h).2⟩

theorem runDecoded_next {d : Decoded} (h : runDecoded d s = .next t) : RaisesOrRuns s t := by
  cases d with
  | instr i =>
    simp only [runDecoded] at h
    split at h
    · cases h
    · exact .inr ⟨i, h⟩
  | reserved => exact .of_takeException h
  | mustBeZero | truncated => cases h
  | reservedCop0 =>
    simp only [runDecoded] at h
    split at h
    · cases h
    · obtain ⟨-, rfl⟩ | ⟨-, h⟩ := withCop0_next h
      · exact .inl ⟨_, rfl⟩
      · exact .of_takeException h
  | mustBeZeroCop0 =>
    simp only [runDecoded] at h
    split at h
    · cases h
    · obtain ⟨-, rfl⟩ | ⟨-, h⟩ := withCop0_next h
      · exact .inl ⟨_, rfl⟩
      · cases h

theorem fetchStorage_stop {wa : Nat} {o : Out} (h : fetchStorage s wa = .stop o) : o ≠ .next t := by
  unfold fetchStorage at h
  split at h
  · cases h
  · cases h
    exact fun he => nomatch he

/-- A fetch that ends the step with a next state has taken an exception. -/
theorem fetch_stop_next (h : fetch s = .stop (.next t)) : RaisesOrRuns s t := by
  unfold fetch at h
  split at h
  · exact .of_takeException (Fetched.stop.inj h)
  split at h
  · cases h
  split at h
  · exact .of_takeException (Fetched.stop.inj h)
  split at h
  · cases h
  dsimp only at h
  split at h
  · exact absurd rfl (fetchStorage_stop h)
  · exact absurd rfl (fetchStorage_stop h)
  · cases h
  · have herror := Fetched.stop.inj h
    unfold fetchBusError at herror
    split at herror
    · cases herror
    · exact .of_takeException herror

theorem coreStep_next (h : coreStep s = .next t) : RaisesOrRuns s t := by
  unfold coreStep at h
  split at h
  · exact .of_takeException h
  split at h
  · exact .of_takeException h
  unfold runInstruction at h
  split at h
  · next o hstop => exact fetch_stop_next (h ▸ hstop)
  · exact runDecoded_next h

theorem WellFormed.cpuStep (h : WellFormed s) (hw : s.waiting = false) (hstep : cpuStep s = .next t) : WellFormed t := by
  obtain ⟨e, rfl⟩ | ⟨i, hexec⟩ := coreStep_next hstep
  · exact h.ticked.raise e
  · exact h.ticked.exec hw hexec

theorem WellFormed.takeInterrupt (h : WellFormed s) (hstep : takeInterrupt s = .next t) : WellFormed t :=
  (takeException_next hstep).2 ▸ h.awake.ticked.raise .int

theorem WellFormed.quietStep (h : WellFormed s) (hstep : quietStep s = .next t) : WellFormed t := by
  obtain ⟨-, -, hstep⟩ := whenRunning_next hstep
  split at hstep
  · exact h.takeInterrupt hstep
  · exact h.awake.cpuStep rfl hstep

/-! ## The environment -/

theorem mips32Only_next {o : Out} (h : mips32Only s o = .next t) : o = .next t := by
  unfold mips32Only at h
  split at h
  · cases h
  · exact h

theorem WellFormed.countTick (h : WellFormed s) : WellFormed (countTick s) := by
  unfold Machine.countTick
  dsimp only
  split
  · exact h
  · exact h.withCp0 (h.cp0.of_same rfl rfl rfl)

theorem WellFormed.debugEvent (h : WellFormed s) {c : DebugCause} (hstep : debugEvent c s = .next t) : WellFormed t := by
  unfold Machine.debugEvent at hstep
  split at hstep
  · cases hstep
    exact h
  · obtain ⟨henter, rfl⟩ := takeDebug_next (mips32Only_next hstep)
    exact h.enterDebug henter c

theorem WellFormed.busWriteEvent (h : WellFormed s) {pa : Word} {w : LaneStore}
    (hstep : busWriteEvent pa w s = .next t) : WellFormed t := by
  unfold Machine.busWriteEvent at hstep
  dsimp only at hstep
  split at hstep
  · cases hstep
    exact h.writeRam _ w .foreign
  · cases hstep
  · cases hstep
    exact h.withDevice _ _
  · cases hstep
    exact h

/-- Every event keeps the invariant. -/
theorem WellFormed.envStep (h : WellFormed s) {e : EnvEvent} (hstep : envStep e s = .next t) : WellFormed t := by
  cases e with
  | cpu =>
    simp only [Machine.envStep] at hstep
    split at hstep
    · cases hstep
      exact h
    · next hw => exact h.cpuStep (by simpa using hw) (whenRunning_next hstep).2.2
  | wake =>
    cases hstep
    exact h.awake
  | tick =>
    cases hstep
    exact h.countTick
  | intReq r =>
    simp only [Machine.envStep] at hstep
    split at hstep
    · next hr =>
      cases hstep
      exact ⟨h.zero, h.mem, h.devRegs, h.codeWords, h.cp0, hr, h.slot, h.hazards, h.map⟩
    · cases hstep
  | interrupt =>
    simp only [Machine.envStep] at hstep
    split at hstep
    · exact h.takeInterrupt (whenRunning_next hstep).2.2
    · cases hstep
      exact h
  | nmi =>
    cases (whenRunning_next hstep).2.2
    exact h.enterNmi
  | reset =>
    have hreset := mips32Only_next hstep
    split at hreset
    · cases hreset
    · cases hreset
      exact h.enterReset
  | debugException c => exact h.debugEvent hstep
  | busWrite pa enable w => exact h.busWriteEvent hstep
  | device reg v =>
    cases hstep
    exact h.withDevice reg v
  | tcb v =>
    cases hstep
    exact h.withCp0 (h.cp0.of_same rfl rfl rfl)

end Step

/-- Settles O5: a quiet step and every event keep each clause. -/
theorem stepKeepsTheInvariant : Obligations.StepKeepsTheInvariant := by
  unfold Obligations.StepKeepsTheInvariant
  intro s t hs hstep
  rw [inv_iff] at hs ⊢
  cases hschedule : s.schedule with
  | nil => exact hs.quietStep (step_of_quiet hschedule ▸ hstep)
  | cons e es => exact (hs.withSchedule es).envStep (step_of_event hschedule ▸ hstep)

end Sys2Proof.Machine
end

section
/-!
Exceptions there and back (60_exceptions.md): the vector as a number, the entry of Debug mode by SDBBP, and ERET after an
entry. O15, O18 and O20 assembled from these.
-/
namespace Sys2Proof.Machine

open Sys2Proof

/-! ## The vector as a number (R486 to R488) -/

/-- Ebase names a page of 4096 bytes above 0x80000000. -/
theorem toNat_ebase (ebase : BitVec 18) :
    (0b10#2 ++ ebase ++ 0x000#12).toNat = 0x80000000 + ebase.toNat * 4096 := by
  rw [BitVec.toNat_append, BitVec.toNat_append, ← Nat.shiftLeft_add_eq_or_of_lt ebase.isLt,
    ← Nat.shiftLeft_add_eq_or_of_lt (by decide), Nat.shiftLeft_eq, Nat.shiftLeft_eq, BitVec.toNat_ofNat, BitVec.toNat_ofNat]
  omega

/-- A page plus an offset that R488 admits stays below 2^32. -/
theorem toNat_ebase_add (ebase : BitVec 18) {offset : Word} (h : offset.toNat ≤ 0x8000) :
    (0b10#2 ++ ebase ++ 0x000#12 + offset).toNat = 0x80000000 + ebase.toNat * 4096 + offset.toNat := by
  have hebase := ebase.isLt
  rw [BitVec.toNat_add, toNat_ebase, Nat.mod_eq_of_lt (by omega)]

/-- A legal spacing keeps every vector inside the 0x8000 bytes of R488. -/
theorem vectorOffset_le {vs : BitVec 5} (h : legalSpacing vs = true) (vector : BitVec 6) :
    0x200 + vector.toNat * (vs.toNat * 32) ≤ 0x8000 := by
  have hvs : vs.toNat ≤ 16 := by
    revert h
    revert vs
    decide
  have hvector : vector.toNat ≤ 63 := Nat.le_of_lt_succ vector.isLt
  have hproduct : vector.toNat * (vs.toNat * 32) ≤ 63 * (16 * 32) := Nat.mul_le_mul hvector (by omega)
  omega

theorem raise_pc {s : State} (e : Exc) (hdm : s.cp0.dbg.dm = false) :
    (raise e s).pc = exceptionBase s.cp0 + exceptionOffset e s.cp0 s.intReq := by
  rw [raise_outside e hdm, enterException_pc]

/-- Settles O15: base and offset of each case, added as numbers. -/
theorem interruptVectors : Obligations.InterruptVectors := by
  unfold Obligations.InterruptVectors
  intro e s hdm hexl
  rw [raise_pc e hdm, exceptionOffset_eq, exceptionBase]
  refine ⟨fun he hiv hbev hvs => ?vectored, fun he hiv hbev => ?bootstrap, fun h => ?general⟩
  case vectored =>
    have hle := vectorOffset_le hvs s.intReq.vector
    refine ⟨hle, ?_⟩
    have hoffset : (0x200#32 + BitVec.ofNat 32 (s.intReq.vector.toNat * (s.cp0.vs.toNat * 32))).toNat =
        0x200 + s.intReq.vector.toNat * (s.cp0.vs.toNat * 32) := by
      rw [BitVec.toNat_add, BitVec.toNat_ofNat, BitVec.toNat_ofNat]
      omega
    simp only [hexl, he, hiv, hbev, and_self, if_true, Bool.false_eq_true, if_false]
    rw [toNat_ebase_add _ (hoffset ▸ hle), hoffset, ← Nat.add_assoc]
  case bootstrap =>
    simp [hexl, he, hiv, hbev]
  case general =>
    have hgeneral : ¬(s.cp0.status.exl = false ∧ e = .int ∧ s.cp0.cause.iv = true) := by
      rintro ⟨-, hint, hiv⟩
      obtain hne | hclear := h
      · exact hne hint
      · simp [hclear] at hiv
    rw [if_neg hgeneral]
    refine ⟨fun hbev => by simp [hbev], fun hbev => ?_⟩
    simp only [hbev, Bool.false_eq_true, if_false]
    exact toNat_ebase_add _ (by decide)

/-! ## SDBBP (43_miscellaneous.md R404) -/

theorem enterDebug_keepsData (c : DebugCause) (s : State) : KeepsData s (enterDebug c s) :=
  ⟨State.regOf_congr rfl, rfl, rfl, fun _ => rfl, rfl, rfl, rfl, rfl⟩

/-- Settles O18: the state `enterDebug` gives, read field by field. -/
theorem softwareBreakpointEntersDebugMode : Obligations.SoftwareBreakpointEntersDebugMode := by
  unfold Obligations.SoftwareBreakpointEntersDebugMode
  intro code s
  refine ⟨decode_sdbbp code, fun h => ?refused, fun h => ?entered⟩
  case refused =>
    change takeDebug .dbp s = _
    simp only [takeDebug, h]
  case entered =>
    have hexec : exec (.sdbbp code) s = .next (enterDebug .dbp s) := by
      change takeDebug .dbp s = _
      simp only [takeDebug, h]
    have hbits : DebugCause.dbp.bits.toBits = 0b0000010#7 := by decide
    exact ⟨_, hexec, rfl, State.savedPc_of_none, fun _ => State.savedPc_of_some, rfl, rfl, rfl, hbits, rfl, rfl, rfl,
      rfl, rfl, rfl, rfl, rfl, rfl, rfl, enterDebug_keepsData .dbp s⟩

/-! ## ERET after an entry (44_coprocessor.md R437) -/

theorem jumpIsa_savedPc (s : State) : jumpIsa s.savedPc = s.isaMode := by
  rw [jumpIsa, State.savedPc]
  exact (BitVec.getLsbD_append ..).trans (by simp)

/-- The saved address is the restart address, where that is that of an instruction. -/
theorem jumpAddress_savedPc {s : State} (h : s.restartPc.getLsbD 0 = false) : jumpAddress s.savedPc = s.restartPc := by
  have hlow : s.restartPc.extractLsb' 0 1 = 0#1 := by
    ext k hk
    obtain rfl : k = 0 := by omega
    simpa using h
  rw [jumpAddress, State.savedPc, BitVec.extractLsb'_append_eq_of_le (by decide), BitVec.extractLsb'_eq_self, ← hlow,
    BitVec.extractLsb'_append_extractLsb'_eq_extractLsb' (by decide)]
  exact BitVec.extractLsb'_eq_self

/-- With BEV clear the entry saved the current set; with BEV set it left SRSCtl alone. -/
theorem css_restored {s : State} (e : Exc) (hexl : s.cp0.status.exl = false) (herl : s.cp0.status.erl = false) :
    (if s.cp0.status.bev = true then (exceptionSets e s.cp0 s.intReq).css else (exceptionSets e s.cp0 s.intReq).pss) =
      s.cp0.srs.css := by
  cases hbev : s.cp0.status.bev with
  | false => simp [exceptionSets_of_clear e s.intReq hexl hbev herl]
  | true => simp [exceptionSets_of_set e s.intReq (.inr (.inl hbev))]

/-- Settles O20: the entry leaves the core in Kernel mode outside a delay slot, and what ERET restores is what it saved. -/
theorem returnUndoesExceptionEntry : Obligations.ReturnUndoesExceptionEntry := by
  unfold Obligations.ReturnUndoesExceptionEntry
  intro e s hdm hexl herl haligned
  have hcp0 : (raise e s).cp0 = exceptionCp0 e s := raise_cp0 e hdm
  have hepc : (exceptionCp0 e s).epc = s.savedPc := if_neg (by simp [hexl])
  have husable : (raise e s).cop0Usable = true := by
    simp [State.cop0Usable, cop0UsableIn, inUserMode, raise_exl e hdm]
  have hexec : exec .eret (raise e s) = .next (returnFromException (raise e s)) := by
    rw [exec_eret husable, outsideSlot_of_none _ (raise_delaySlot e s)]
  have herl' : (raise e s).cp0.status.erl = false := hcp0 ▸ herl
  obtain ⟨hc, hpc, hisa⟩ := returnFromException_of_not_erl herl'
  have hcss : (returnFromException (raise e s)).cp0.srs.css = s.cp0.srs.css := by
    rw [hc, hcp0]
    exact css_restored e hexl herl
  have hregs : SameRegs s (returnFromException (raise e s)) := State.regOf_congr (by simp)
  refine ⟨_, hexec, ?_, ?_, rfl, ?_, hcss, fun r => State.reg_congr (by simp) hcss r, hregs, by simp, by simp⟩
  · rw [hpc, hcp0, hepc, jumpAddress_savedPc haligned]
  · rw [hisa, hcp0, hepc, jumpIsa_savedPc]
  · rw [hc, hcp0]
    show { s.cp0.status with exl := false } = s.cp0.status
    rw [← hexl]

end Sys2Proof.Machine
end

section
/-!
Data accesses put together (40_load_store.md): LWR and LWL as a pair, SW and LW of a peripheral register, and SC. O23, O26
and O28 assembled from the rules of loads and stores.
-/
namespace Sys2Proof.Machine

open Sys2Proof

/-! ## LWR, then LWL (R226, R227) -/

/-- The checks of an access look at Coprocessor 0 alone. -/
theorem AccessOk.of_cp0_eq {n : Nat} {va pa : Word} {s t : State} (h : AccessOk n va s pa) (hc : t.cp0 = s.cp0) :
    AccessOk n va t pa := by
  have huser : t.userMode = s.userMode := by rw [State.userMode, hc, State.userMode]
  exact ⟨h.aligned, huser ▸ h.privileged, huser ▸ hc ▸ h.endian, hc ▸ h.noDseg, hc ▸ h.translated⟩

/-- Between them the two merges fill every lane with the byte at its place from `pa` on. -/
theorem mergeLeft_mergeRight_readWord (m : List Host.Cell) {pa pa3 : Word} (h : pa3.toNat = pa.toNat + 3) (old : Word) :
    mergeLeft (laneOf pa3) (readWord m (wordAddr pa3)) (mergeRight (laneOf pa) (readWord m (wordAddr pa)) old) =
      readByte m (pa.toNat + 3) ++ readByte m (pa.toNat + 2) ++ readByte m (pa.toNat + 1) ++ readByte m pa.toNat := by
  refine eq_append_of_byteLane (byte := fun j => readByte m (pa.toNat + j)) fun j hj => ?_
  rw [byteLane_mergeLeft_readWord _ _ _ _ hj]
  split
  · congr 1
    omega
  · have hright := byteLane_mergeRight_readWord m pa old j hj
    rw [if_pos (by omega)] at hright
    exact hright

/-- Two writes of one register, one after the other. -/
theorem OnlyReg.trans {set : SetNum} {r : Reg} {v w : Word} {s t u : State} (h : OnlyReg set r v s t)
    (h' : OnlyReg set r w t u) : OnlyReg set r w s u :=
  ⟨h'.1, fun set' r' hne => (h'.2 set' r' hne).trans (h.2 set' r' hne)⟩

theorem SameAcc.trans {s t u : State} (h : SameAcc s t) (h' : SameAcc t u) : SameAcc s u :=
  ⟨h'.1.trans h.1, h'.2.1.trans h.2.1, h'.2.2.trans h.2.2⟩

/-- Settles O23: the second load reads what the first one left, and fills the other lanes. -/
theorem unalignedLoadPair : Obligations.UnalignedLoadPair := by
  unfold Obligations.UnalignedLoadPair
  intro base rt low high s pa pa3 hbase hrt haddr hok hstorage hok3 hstorage3 hpa3
  let first := mergeRight (laneOf pa) (readWord s.mem (wordAddr pa)) (s.reg rt)
  let t := (s.setReg rt first).advance
  have hcp0 : t.cp0 = s.cp0 := by simp [t]
  have hreg (r : Reg) : t.reg r = (s.setReg rt first).reg r := by simp [t, State.reg]
  have hlow : exec (.lwr base rt low) s = .next t := by
    rw [exec_lwr, withLoad_storage _ hok hstorage, completeReg_eq, hok.laneOf_eq]
  have hva : t.effectiveAddress base high = s.effectiveAddress base high := by
    simp only [State.effectiveAddress, hreg, State.reg_setReg, hbase, false_and, if_false]
  have hold : t.reg rt = first := by rw [hreg, State.reg_setReg, if_pos ⟨rfl, hrt⟩]
  have hmem : t.mem = s.mem := by simp [t]
  have hstorage3' : LoadsStorage t pa3 := by simpa [LoadsStorage, t] using hstorage3
  have hhigh : exec (.lwl base rt high) t = .next (t.setReg rt (readByte s.mem (pa.toNat + 3) ++
      readByte s.mem (pa.toNat + 2) ++ readByte s.mem (pa.toNat + 1) ++ readByte s.mem pa.toNat)).advance := by
    rw [exec_lwl, hva, withLoad_storage _ (hok3.of_cp0_eq hcp0) hstorage3', completeReg_eq, hok3.laneOf_eq, hold, hmem,
      mergeLeft_mergeRight_readWord s.mem hpa3]
  have hfirst := WritesReg.setReg_advance s rt first
  have hsecond := WritesReg.setReg_advance t rt (readByte s.mem (pa.toNat + 3) ++
      readByte s.mem (pa.toNat + 2) ++ readByte s.mem (pa.toNat + 1) ++ readByte s.mem pa.toNat)
  exact ⟨t, _, hlow, hhigh, hfirst.regs.trans (hcp0 ▸ hsecond.regs), hfirst.system.trans hsecond.system,
    hfirst.acc.trans hsecond.acc⟩

/-! ## Peripheral registers (20_memory.md R136 to R138) -/

/-- A load of the base address of a peripheral register gives its value. -/
theorem withLoad_device_base {n : Nat} {va pa : Word} {s : State} {reg : Nat} (k : Word → State → Out)
    (h : AccessOk n va s pa) (ht : loadTarget s.cfg (wordAddr pa) = .device reg .base) :
    withLoad n va s k = k (deviceGet s.devRegs reg) s := by
  unfold withLoad
  rw [(checkAccess_ok_iff .load n va s pa).mpr h]
  simp only [ht]

/-- A load of another address of it gives a free value. -/
theorem withLoad_device_open {n : Nat} {va pa : Word} {s : State} {reg : Nat} {kind : RegKind} (k : Word → State → Out)
    (h : AccessOk n va s pa) (hkind : kind ≠ .base) (ht : loadTarget s.cfg (wordAddr pa) = .device reg kind) :
    withLoad n va s k = k (s.freeWord 0) (s.drawn 1) := by
  unfold withLoad
  rw [(checkAccess_ok_iff .load n va s pa).mpr h]
  cases kind with
  | base => exact absurd rfl hkind
  | clr | set | inv => simp only [ht]

/-- A word store enables every byte lane (R137). -/
theorem and_laneMask_all (w : Word) : w &&& laneMask 0xF#4 = w := by
  have hones : (0xFFFFFFFF#32 : Word) = BitVec.allOnes 32 := by decide
  rw [laneMask_all, hones, BitVec.and_allOnes]

theorem not_laneMask_all : ~~~laneMask 0xF#4 = 0#32 := by decide

/-- Settles O26: the target decides what the store updates and what the load reads. -/
theorem peripheralRegisterAccess : Obligations.PeripheralRegisterAccess := by
  unfold Obligations.PeripheralRegisterAccess
  intro base rt offset s pa reg hok
  refine ⟨fun kind htarget => ?stores, fun htarget => ?reads, fun kind hkind htarget => ?opens⟩
  case stores =>
    have hget (r : Nat) : deviceGet (s.advance.storeDevice reg kind (laneWord (s.reg rt))).devRegs r =
        if r = reg then deviceUpdate kind 0xF#4 (deviceGet s.devRegs reg) (s.reg rt) else deviceGet s.devRegs r := by
      simp [State.storeDevice, deviceGet_devicePut, laneWord]
    refine ⟨_, withStore_device _ State.advance hok htarget, ?_, fun r hr => ?_, State.regOf_congr (by simp),
      ⟨by simp, by simp, by simp⟩, by constructor <;> simp, ⟨rfl, rfl, by simp, rfl, rfl⟩⟩
    · rw [hget, if_pos rfl]
      cases kind <;> simp [deviceUpdate, and_laneMask_all, not_laneMask_all]
    · rw [hget, if_neg hr]
  case reads =>
    exact Completes.of_completeReg (by rw [exec_lw, withLoad_device_base _ hok htarget])
  case opens =>
    exact ⟨s.freeWord 0, s.freeIdx + 1, _, by rw [exec_lw, withLoad_device_open _ hok hkind htarget, completeReg_eq],
      WritesReg.setReg_advance (s.drawn 1) rt (s.freeWord 0)⟩

/-! ## SC (R234) -/

theorem exec_sc_of_not_llbit {base rt : Reg} {offset : BitVec 16} {s : State} {pa : Word} (h : s.llbit = false)
    (hok : AccessOk 4 (s.effectiveAddress base offset) s pa) :
    exec (.sc base rt offset) s = .next (afterStoreConditional rt 0#32 s) := by
  change execSc base rt offset s = _
  simp only [execSc, h, Bool.false_eq_true, if_false, (checkAccess_ok_iff .store _ _ s pa).mpr hok]

/-- The address errors come first, whatever LLbit holds. -/
theorem exec_sc_of_addressError {base rt : Reg} {offset : BitVec 16} {s : State}
    (h : AddressError 4 (s.effectiveAddress base offset) s) :
    exec (.sc base rt offset) s = takeException (.ades (s.effectiveAddress base offset)) s := by
  have hcheck := checkAccess_of_addressError (kind := .store) h
  change execSc base rt offset s = _
  cases hll : s.llbit <;> simp [execSc, withStore, hll, hcheck, DataKind.addressError]

/-- The register that SC writes, and no other. -/
theorem afterStoreConditional_regs (rt : Reg) (r : Word) (s : State) :
    OnlyReg s.cp0.srs.css rt r s (afterStoreConditional rt r s) := by
  have hfile : (afterStoreConditional rt r s).gprs = (s.setReg rt r).gprs := by simp [afterStoreConditional]
  obtain ⟨hwritten, hothers⟩ := OnlyReg.setRegOf s s.cp0.srs.css rt r
  exact ⟨(State.regOf_congr hfile _ _).trans hwritten,
    fun set' r' hne => (State.regOf_congr hfile _ _).trans (hothers set' r' hne)⟩

theorem afterStoreConditional_frame (rt : Reg) (r : Word) (s : State) : StoreFrame s (afterStoreConditional rt r s) := by
  have hu := Local.storeConditional s rt r
  exact ⟨by simp, by simp, by simp, by simp, by simp, by simp, by simp, by simp,
    MovesOn.advance_of_eq hu.pc hu.isaMode hu.delaySlot (by simp) hu.staleStatus⟩

/-- A store to RAM after the instruction is complete changes memory and the marks alone. -/
theorem StoreFrame.storeRam {s u : State} (h : StoreFrame s u) (wa : Nat) (w : LaneStore) :
    StoreFrame s (u.storeRam wa w) :=
  ⟨h.waiting, h.cp0, h.hi, h.lo, h.devRegs, h.intReq, h.schedule, h.cfg,
    ⟨h.moves.pc, h.moves.isaMode, h.moves.delaySlot, h.moves.hazards, h.moves.staleStatus⟩⟩

/-- Settles O28: both outcomes complete in the state `afterStoreConditional` gives, and only one stores. -/
theorem storeConditional : Obligations.StoreConditional := by
  unfold Obligations.StoreConditional
  intro base rt offset s
  refine ⟨decode_sc base rt offset, fun herror => ?fails, fun pa hok => ⟨fun hll hram => ?stores, fun hll => ?keeps⟩⟩
  case fails =>
    rw [exec_sc_of_addressError herror]
    exact takes_takeException _ s
  case stores =>
    have hstart : wordAddr pa + 0 = pa.toNat := hok.laneOf_zero ▸ wordAddr_add_laneOf pa
    have hmem : ((afterStoreConditional rt 1#32 s).storeRam (wordAddr pa) (laneWord (s.reg rt))).mem =
        (s.advance.storeRam (wordAddr pa) (laneWord (s.reg rt))).mem := by simp
    have hbytes := BytesStored.storeRam (laneWord_writes (s.reg rt)) s (wordAddr pa)
    rw [hstart] at hbytes
    obtain ⟨hwritten, hothers⟩ := afterStoreConditional_regs rt 1#32 s
    exact ⟨_, (exec_sc_of_llbit hll).trans (withStore_ram _ _ hok hram), ⟨hmem ▸ hbytes.stored, hmem ▸ hbytes.others⟩,
      ⟨(State.regOf_congr (by simp) _ _).trans hwritten,
        fun set' r hne => (State.regOf_congr (by simp) _ _).trans (hothers set' r hne)⟩,
      (afterStoreConditional_frame rt 1#32 s).storeRam _ _⟩
  case keeps =>
    exact ⟨_, exec_sc_of_not_llbit hll hok, fun a => by simp, afterStoreConditional_regs rt 0#32 s,
      afterStoreConditional_frame rt 0#32 s⟩

end Sys2Proof.Machine
end

section
/-!
Control transfers in a delay slot, a step of the core in MIPS32 mode, WAIT, and the words after reset
(42_jump_branch.md R343, 44_coprocessor.md R437 to R439, 60_exceptions.md R492 to R507, 10_state.md section 13). O45, O7,
O57 and O10 assembled from these.
-/
namespace Sys2Proof.Machine

open Sys2Proof

/-! ## In a delay slot (R343, U13) -/

/-- The read of the link register is the reason given first (log entry 25). -/
theorem linkingTransfer_of_some (source link : Reg) {s : State} {d : DelaySlot} (t : State) (h : s.delaySlot = some d) :
    linkingTransfer source link s t = .refused (if source != link then .controlInDelaySlot else .readsLinkRegister) := by
  by_cases heq : source = link
  · simp [linkingTransfer, heq]
  · simp [linkingTransfer, heq, controlTransfer_of_some t h]

theorem exec_wait {s : State} (code : BitVec 19) (hu : s.cop0Usable = true) :
    exec (.wait code) s =
      if s.inDelaySlot then .refused .waitInDelaySlot else .next { s.advance with waiting := true } :=
  withCop0_usable _ hu

/-- Settles O45: the transfers that link compare the registers first, the others are refused at once. -/
theorem noControlTransferInDelaySlot : Obligations.NoControlTransferInDelaySlot := by
  unfold Obligations.NoControlTransferInDelaySlot
  intro rs rt rd offset index code s d hslot
  have plain (t : State) : controlTransfer s t = .refused .controlInDelaySlot := controlTransfer_of_some t hslot
  have linking (link : Reg) (t : State) : linkingTransfer rs link s t =
      .refused (if rs != link then .controlInDelaySlot else .readsLinkRegister) := linkingTransfer_of_some rs link t hslot
  refine ⟨?transfers, fun hu => ⟨?eret, ?deret, ?wait⟩⟩
  case transfers =>
    simp only [List.forall_mem_cons, List.not_mem_nil, false_implies, implies_true, and_true]
    exact ⟨plain _, plain _, plain _, plain _, linking rd _, plain _, linking rd _, plain _, plain _, plain _,
      plain _, plain _, plain _, linking 31#5 _, linking 31#5 _, plain _, plain _, plain _, plain _, plain _,
      plain _, linking 31#5 _, linking 31#5 _⟩
  case eret => exact (exec_eret hu).trans (outsideSlot_of_some _ hslot)
  case deret => exact (exec_deret hu).trans (outsideSlot_of_some _ hslot)
  case wait =>
    rw [exec_wait code hu, if_pos (by simp [State.inDelaySlot, hslot])]

/-! ## A step in MIPS32 mode (R492, R500) -/

/-- What the environment schedules, and whether the core waits, matter to no fetch. -/
theorem FetchReady.ticked {s : State} {b0 b1 b2 b3 : Byte} (h : FetchReady s b0 b1 b2 b3) (w : Bool)
    (es : List EnvEvent) : FetchReady { s with waiting := w, schedule := es }.ticked b0 b1 b2 b3 :=
  ⟨h.noFetchError, h.noDataError, h.mips32, h.noSingleStep, h.aligned, h.noHazard, h.privileged, h.noDseg, h.storage,
    h.coherent, h.byte0, h.byte1, h.byte2, h.byte3⟩

/-- The four bytes at an aligned program counter are the word fetched (20_memory.md R148). -/
theorem fetch_of_ready {s : State} {b0 b1 b2 b3 : Byte} (h : FetchReady s b0 b1 b2 b3) :
    fetch s = .word (wordOfBytes b0 b1 b2 b3) := by
  have hpriv : (s.userMode && s.pc.msb) = false := by simpa using h.privileged
  have hdseg : (s.cp0.dbg.dm && inDseg s.pc) = false := by simpa using h.noDseg
  have hlane : laneOf (translate s.cp0.status.erl s.pc) = 0 := (laneOf_translate _ _).trans h.aligned
  have hword : readWord s.mem (wordAddr (translate s.cp0.status.erl s.pc)) = wordOfBytes b0 b1 b2 b3 := by
    rw [readWord_wordAddr _ hlane, ← h.byte0, ← h.byte1, ← h.byte2, ← h.byte3]
    rfl
  have hstorage := fetchStorage_of_visible (s := s) h.coherent
  rw [hword] at hstorage
  rcases h.storage with htarget | htarget <;>
    simp [fetch, h.aligned, h.noHazard, hpriv, hdseg, htarget, hstorage]

/-- No bus error is pending, so the core runs what it fetches (R494). -/
theorem coreStep_of_ready {s : State} {b0 b1 b2 b3 : Byte} {i : Instr} (h : FetchReady s b0 b1 b2 b3)
    (hdecode : decodeBytes [b0, b1, b2, b3] = .instr i) (hhazard : hazardSeen i s = false) : coreStep s = exec i s := by
  have hib : (s.cp0.dbg.ibusep && !s.cp0.dbg.iexi) = false := by simpa using h.noFetchError
  have hdb : (s.cp0.dbg.dbusep && !s.cp0.dbg.iexi) = false := by simpa using h.noDataError
  have hword : decode (wordOfBytes b0 b1 b2 b3) = .instr i := hdecode
  simp [coreStep, hib, hdb, runInstruction, fetch_of_ready h, hword, runDecoded, hhazard]

/-- Whether an instruction sees a hazard depends neither on the schedule nor on a wait. -/
theorem hazardSeen_ticked (i : Instr) (s : State) (w : Bool) (es : List EnvEvent) :
    hazardSeen i { s with waiting := w, schedule := es }.ticked = hazardSeen i s.ticked := by
  cases i <;> rfl

/-- Settles O7: both steps run the core in a state that is ready to fetch. -/
theorem stepRunsTheDecodedInstruction : Obligations.StepRunsTheDecodedInstruction := by
  unfold Obligations.StepRunsTheDecodedInstruction
  intro s b0 b1 b2 b3 i hready hdecode hhazard
  have hcore (w : Bool) (es : List EnvEvent) : cpuStep { s with waiting := w, schedule := es } =
      exec i { s with waiting := w, schedule := es }.ticked :=
    coreStep_of_ready (hready.ticked w es) hdecode ((hazardSeen_ticked i s w es).trans hhazard)
  refine ⟨fun hquiet hint => ?quiet, fun es hevent hwaiting => ?scheduled⟩
  case quiet =>
    rw [step_of_quiet hquiet, quietStep, whenRunning_of _ hready.mips32 hready.noSingleStep, hint, Bool.false_and]
    exact hcore false s.schedule
  case scheduled =>
    rw [step_of_event hevent, envStep, if_neg (by simp [hwaiting])]
    exact (whenRunning_of _ hready.mips32 hready.noSingleStep).trans (hcore s.waiting es)

/-! ## WAIT (R439) and what ends it (R500, R507, R553) -/

/-- The state in which the core waits is the one after the instruction. -/
theorem exec_wait_of_none {s : State} (code : BitVec 19) (hu : s.cop0Usable = true) (hslot : s.delaySlot = none) :
    exec (.wait code) s = .next { s with waiting := true }.advance := by
  rw [exec_wait code hu, if_neg (by simp [State.inDelaySlot, hslot])]
  simp [State.advance, hslot]

theorem State.savedPc_of_mips32_of_none {s : State} (hisa : s.isaMode = false) (hslot : s.delaySlot = none) :
    s.savedPc = s.pc.extractLsb' 1 31 ++ 0#1 := by
  rw [State.savedPc_of_mips32 hisa, State.restartPc, hslot]

/-- The step of the scoreboard comes before the entry (R500, R574). -/
theorem takeInterrupt_of_hazard_free {s : State} (h : entryHazard .int s.ticked = false) :
    takeInterrupt s = .next (raise .int { s with waiting := false }) := by
  have htaken : takeException .int { s with waiting := false }.ticked = .next (raise .int { s with waiting := false }.ticked) :=
    (takes_takeException _ _).taken h
  exact htaken.trans (congrArg _ (raise_ticked _ _))

/-- Outside a delay slot the interrupt saves the program counter (R480). -/
theorem raise_int_restart {s : State} (h : s.interruptTakeable = true) (hisa : s.isaMode = false)
    (hslot : s.delaySlot = none) : (raise .int s).cp0.epc = s.pc.extractLsb' 1 31 ++ 0#1 ∧
      (raise .int s).cp0.cause.bd = false := by
  obtain ⟨-, hexl, -, hdm, -⟩ := (takeableUnder_iff _ _).mp h
  exact ⟨(raise_epc .int hdm hexl).trans (State.savedPc_of_mips32_of_none hisa hslot),
    (raise_bd .int hdm hexl).trans (by rw [hslot]; rfl)⟩

/-- An interrupt that may be taken ends the wait, with the address after the WAIT in EPC. -/
theorem step_of_interrupt_waiting {u : State} {es : List EnvEvent} (hevent : u.schedule = .interrupt :: es)
    (htakeable : u.interruptTakeable = true) (hisa : u.isaMode = false) (hstep : singleStepDue u = false)
    (hhazard : entryHazard .int u.ticked = false) (hslot : u.delaySlot = none) :
    ∃ v, step u = .next v ∧ v.waiting = false ∧ v.cp0.epc = u.pc.extractLsb' 1 31 ++ 0#1 ∧ v.cp0.cause.bd = false := by
  rw [step_of_interruptPossible hevent (State.interruptPossible_of_takeable htakeable)]
  exact ⟨_, (whenRunning_of _ hisa hstep).trans (takeInterrupt_of_hazard_free hhazard), raise_waiting _ _,
    raise_int_restart htakeable hisa hslot⟩

/-- Settles O57: each event strikes in the state after the WAIT, whose program counter is the next instruction's. -/
theorem waitingForAnEvent : Obligations.WaitingForAnEvent := by
  unfold Obligations.WaitingForAnEvent
  intro code s hu hslot
  have hpc : { s with waiting := true }.advance.pc = s.pc + 4#32 := by simp [State.advance, hslot]
  have hisa : { s with waiting := true }.advance.isaMode = s.isaMode := by simp [State.advance, hslot]
  refine ⟨_, exec_wait_of_none code hu hslot, NoEffect.advance _, hpc, fun u es hes => ?_⟩
  have hevent {e : EnvEvent} {fs : List EnvEvent} (h : es = e :: fs) : u.schedule = e :: fs := by rw [hes, h]
  have hstep {e : EnvEvent} {fs : List EnvEvent} (h : es = e :: fs) : step u = envStep e { u with schedule := fs } :=
    step_of_event (hevent h)
  have hslot' : u.delaySlot = none := by rw [hes]; simp
  have hpc' : u.pc = s.pc + 4#32 := by rw [hes]; exact hpc
  have hisa' : u.isaMode = s.isaMode := by rw [hes]; exact hisa
  have hwait : u.waiting = true := by rw [hes]; simp
  have hsaved (fs : List EnvEvent) (hm : s.isaMode = false) :
      { u with schedule := fs }.savedPc = (s.pc + 4#32).extractLsb' 1 31 ++ 0#1 :=
    hpc' ▸ State.savedPc_of_mips32_of_none (hisa'.trans hm) hslot'
  refine ⟨fun fs hcpu => ?cpu, fun fs hwake => hstep hwake, fun fs hint htakeable hm hss hhazard => ?interrupt,
    fun fs hnmi hm hss => ?nmi, fun fs hreset hm hboot => ?reset⟩
  case cpu => exact (hstep hcpu).trans (if_pos hwait)
  case interrupt =>
    rw [← hpc']
    exact step_of_interrupt_waiting (hevent hint) htakeable (hisa'.trans hm) hss hhazard hslot'
  case nmi => exact ⟨_, (hstep hnmi).trans (whenRunning_of _ (hisa'.trans hm) hss), rfl, rfl, hsaved fs hm⟩
  case reset =>
    have hboot' : u.cfg.ejtagBoot = false := by rw [hes]; simpa using hboot
    exact ⟨_, (hstep hreset).trans (envStep_reset (hisa'.trans hm) hboot'), rfl, rfl, hsaved fs hm⟩

/-! ## The words after reset (10_state.md section 13) -/

/-- Settles O10: r0 reads zero in every set, and each word is that of a closed state. -/
theorem resetRegisterValues : Obligations.ResetRegisterValues := by
  unfold Obligations.ResetRegisterValues
  refine ⟨fun set => ?r0, ?_, ?_, ?_, ?_, ?_, ?_, ?_, ?_, ?_, ?_, ?_, ?_, ?_, ?_, ?_⟩
  case r0 => exact State.regOf_zero _ set
  all_goals decide

end Sys2Proof.Machine
end

section
/-!
MFC0 and MTC0 (44_coprocessor.md R431, R432; 10_state.md sections 3 to 12): the word a read answers, the fields a write
takes, and the writes the manual calls undefined. O53, O54 and O55 assembled from these.
-/
namespace Sys2Proof.Machine

open Sys2Proof

/-! ## The bits of a word made of fields -/

/-- The bits that a mask takes from one word, where another word gives the rest. -/
theorem or_and_not_and_self {n : Nat} (a b mask : BitVec n) :
    ((a &&& mask) ||| (b &&& ~~~mask)) &&& mask = a &&& mask := by
  ext k hk
  simp only [BitVec.getElem_and, BitVec.getElem_or, BitVec.getElem_not]
  cases mask[k] <;> simp

/-- The fields of Status side by side, their widths not summed. -/
theorem Status.getLsbD_toWord (t : Status) (k : Nat) : t.toWord.getLsbD k =
    BitVec.getLsbD (0#3 ++ BitVec.ofBool t.cu0 ++ BitVec.ofBool t.rp ++ 0#1 ++ BitVec.ofBool t.re ++ 0#2 ++
      BitVec.ofBool t.bev ++ 0#1 ++ BitVec.ofBool t.sr ++ BitVec.ofBool t.nmi ++ 0#6 ++ t.ipl ++ 0#5 ++
      BitVec.ofBool t.um ++ 0#1 ++ BitVec.ofBool t.erl ++ BitVec.ofBool t.exl ++ BitVec.ofBool t.ie) k := rfl

theorem getLsbD_causeWord (ripl : BitVec 3) (t : Cause) (k : Nat) : (causeWord ripl t).getLsbD k =
    BitVec.getLsbD (BitVec.ofBool t.bd ++ BitVec.ofBool t.ti ++ t.ce ++ BitVec.ofBool t.dc ++ 0#3 ++ BitVec.ofBool t.iv ++
      0#10 ++ ripl ++ BitVec.ofBool t.ip1 ++ BitVec.ofBool t.ip0 ++ 0#1 ++ t.excCode ++ 0#2) k := rfl

theorem Debug.getLsbD_toWord (t : Debug) (k : Nat) : t.toWord.getLsbD k =
    BitVec.getLsbD (BitVec.ofBool t.dbd ++ BitVec.ofBool t.dm ++ 0#1 ++ BitVec.ofBool t.lsnm ++ BitVec.ofBool t.doze ++
      BitVec.ofBool t.halt ++ BitVec.ofBool t.countdm ++ BitVec.ofBool t.ibusep ++ 0#2 ++ BitVec.ofBool t.dbusep ++
      BitVec.ofBool t.iexi ++ 0#2 ++ 0b010#3 ++ t.dexcCode ++ 0#1 ++ BitVec.ofBool t.sst ++ 0#1 ++ t.causes.toBits) k := rfl

/-- The cause bits of Debug, one by one after the other fields. -/
theorem DebugCauses.getLsbD_append_toBits {n : Nat} (x : BitVec n) (c : DebugCauses) (k : Nat) :
    (x ++ c.toBits).getLsbD k = (x ++ BitVec.ofBool c.dibimpr ++ BitVec.ofBool c.dint ++ BitVec.ofBool c.dib ++
      BitVec.ofBool c.ddbs ++ BitVec.ofBool c.ddbl ++ BitVec.ofBool c.dbp ++ BitVec.ofBool c.dss).getLsbD k := by
  have hbits (j : Nat) : c.toBits.getLsbD j = BitVec.getLsbD (BitVec.ofBool c.dibimpr ++ BitVec.ofBool c.dint ++
      BitVec.ofBool c.dib ++ BitVec.ofBool c.ddbs ++ BitVec.ofBool c.ddbl ++ BitVec.ofBool c.dbp ++ BitVec.ofBool c.dss) j := rfl
  simp only [BitVec.getLsbD_append, hbits]
  rcases lt_or_ge k 7 with hk | hk
  · interval_cases k <;> simp
  · obtain ⟨j, rfl⟩ := Nat.exists_eq_add_of_le' hk
    simp

/-- A write of Status takes the writable fields, and SR and NMI only where they were set (R42, R43). -/
theorem Status.toWord_write (t : Status) (v : Word) :
    (t.write v).toWord = (v &&& 0x1A401C17#32) ||| (t.toWord &&& v &&& 0x00180000#32) := by
  apply BitVec.eq_of_getLsbD_eq
  intro k hk
  simp only [BitVec.getLsbD_or, BitVec.getLsbD_and, Status.getLsbD_toWord, BitVec.getLsbD_append]
  interval_cases k <;> simp [Status.write, -BitVec.getLsbD_eq_getElem]

/-- A write of Cause takes DC, IV, IP1 and IP0 (R59). -/
theorem causeWord_write (ripl : BitVec 3) (t : Cause) (v : Word) :
    causeWord ripl (t.write v) = (v &&& 0x08800300#32) ||| (causeWord ripl t &&& 0xF77FFCFF#32) := by
  apply BitVec.eq_of_getLsbD_eq
  intro k hk
  simp only [BitVec.getLsbD_or, BitVec.getLsbD_and, getLsbD_causeWord, BitVec.getLsbD_append]
  interval_cases k <;> simp [Cause.write, -BitVec.getLsbD_eq_getElem]

/-- Outside Debug mode the bits that Debug defines are DM clear and VER 2 (R71). -/
theorem Debug.toWord_valid {t : Debug} (h : t.dm = false) : t.toWord &&& debugValidMask = 0x00010000#32 := by
  apply BitVec.eq_of_getLsbD_eq
  intro k hk
  simp only [debugValidMask, BitVec.getLsbD_and, Debug.getLsbD_toWord, BitVec.getLsbD_append]
  interval_cases k <;> simp [h, -BitVec.getLsbD_eq_getElem]

/-- The bits of TraceControl2 that the Trace Control Block does not load (R85). -/
theorem traceControl2_constant (tcb : BitVec 5) : (0#25 ++ 0b10#2 ++ tcb) &&& ~~~traceBlockMask = 0x00000040#32 := by
  revert tcb
  decide

/-! ## MFC0 (R431) -/

section Read
variable {rt rd : Reg} {sel : BitVec 3} {s : State}

theorem exec_mfc0 (hu : s.cop0Usable = true) : exec (.mfc0 rt rd sel) s =
    completeReg (readCp0 (cp0RegOf s.cfg rd sel) s).2 rt (readCp0 (cp0RegOf s.cfg rd sel) s).1 :=
  withCop0_usable _ hu

/-- A read that draws no free value. -/
theorem completes_mfc0 {w : Word} (hu : s.cop0Usable = true) (h : readCp0 (cp0RegOf s.cfg rd sel) s = (w, s)) :
    Completes (.mfc0 rt rd sel) s (WritesReg rt w s) :=
  .of_completeReg (by rw [exec_mfc0 hu, h])

/-- A read that draws one. -/
theorem completes_mfc0_drawn {w : Word} (hu : s.cop0Usable = true)
    (h : readCp0 (cp0RegOf s.cfg rd sel) s = (w, s.drawn 1)) :
    Completes (.mfc0 rt rd sel) s (WritesReg rt w { s with freeIdx := s.freeIdx + 1 }) :=
  ⟨_, by rw [exec_mfc0 hu, h, completeReg_eq], WritesReg.setReg_advance (s.drawn 1) rt w⟩

end Read

/-- Settles O53: the word of each register is by definition its fields side by side; what is open draws a free value. -/
theorem moveFromCoprocessor0 : Obligations.MoveFromCoprocessor0 := by
  unfold Obligations.MoveFromCoprocessor0
  intro rt s hu
  refine ⟨?defined, fun hset => ?srsMap, fun hset => ?srsMapOpen, ?debug, fun hdm => ?debugOpen, fun htrace => ?trace,
    fun hbreak => ?debug2, fun rd sel hreserved => ?reserved⟩
  case defined =>
    rintro st ca rfl rfl
    simp only [List.forall_mem_cons, List.not_mem_nil, false_implies, implies_true, and_true]
    refine ⟨?_, ?_, ?_, ?_, ?_, ?_, ?_, ?_, ?_, ?_, ?_, ?_, ?_, ?_, ?_, ?_, ?_, ?_⟩
    all_goals exact completes_mfc0 hu rfl
  case srsMap => exact completes_mfc0 hu (if_neg hset)
  case srsMapOpen => exact ⟨_, _, completes_mfc0_drawn hu (if_pos hset)⟩
  case debug =>
    rintro d c rfl rfl hdm
    refine completes_mfc0 hu ((if_pos hdm).trans (congrArg (·, s) (BitVec.eq_of_getLsbD_eq fun k _ => ?_)))
    refine (DebugCauses.getLsbD_append_toBits _ _ _).trans ?_
    rw [hdm]
    rfl
  case debugOpen =>
    have hopen : readCp0 (cp0RegOf s.cfg 23#5 0#3) s = _ := if_neg (ne_true_of_eq_false hdm)
    exact ⟨_, _, (or_and_not_and_self _ _ debugValidMask).trans (Debug.toWord_valid hdm), completes_mfc0_drawn hu hopen⟩
  case trace =>
    have hreg (sel : BitVec 3) {r : Cp0Reg} (h : cp0RegOf s.cfg 23#5 sel = if s.cfg.hasTrace then r else .reserved) :
        cp0RegOf s.cfg 23#5 sel = r := h.trans (if_pos htrace)
    have hcontrol := hreg 1#3 (r := .traceControl) rfl
    have hcontrol2 := hreg 2#3 (r := .traceControl2) rfl
    have hdata := hreg 3#3 (r := .userTraceData) rfl
    have hbpc := hreg 4#3 (r := .traceBPC) rfl
    refine ⟨completes_mfc0 hu (by rw [hcontrol]; rfl), fun hloaded => ?_, fun hloaded => ?_,
      completes_mfc0 hu (by rw [hdata]; rfl), completes_mfc0 hu (by rw [hbpc]; rfl)⟩
    · exact completes_mfc0 hu (by rw [hcontrol2]; exact if_pos hloaded)
    · have hopen : readCp0 .traceControl2 s = _ := if_neg (ne_true_of_eq_false hloaded)
      have hmask : ((s.cp0Word .traceControl2 &&& ~~~traceBlockMask) ||| (s.freeWord 0 &&& traceBlockMask)) &&&
          0xFFFFFFE0#32 = 0x00000040#32 := by
        have := or_and_not_and_self (s.cp0Word .traceControl2) (s.freeWord 0) (~~~traceBlockMask)
        rw [BitVec.not_not] at this
        exact this.trans (traceControl2_constant s.cp0.tcb)
      exact ⟨_, _, hmask, completes_mfc0_drawn hu (by rw [hcontrol2]; exact hopen)⟩
  case debug2 =>
    have hreg : cp0RegOf s.cfg 23#5 5#3 = .debug2 := if_pos hbreak
    exact completes_mfc0 hu (by rw [hreg]; rfl)
  case reserved => exact ⟨_, _, completes_mfc0_drawn hu (by rw [hreserved]; rfl)⟩

/-! ## MTC0 (R432) -/

section Write
variable {rt rd : Reg} {sel : BitVec 3} {s : State}

theorem exec_mtc0_of_ok {c : Cp0} (hu : s.cop0Usable = true)
    (h : writeCp0 (cp0RegOf s.cfg rd sel) (s.reg rt) s = .ok c) :
    exec (.mtc0 rt rd sel) s = .next (noteWrite (cp0RegOf s.cfg rd sel) s (s.advance.withCp0 c)) := by
  refine (withCop0_usable _ hu).trans ?_
  simp only [h]
  rfl

theorem exec_mtc0_of_error {why : Refusal} (hu : s.cop0Usable = true)
    (h : writeCp0 (cp0RegOf s.cfg rd sel) (s.reg rt) s = .error why) :
    exec (.mtc0 rt rd sel) s = .refused why := by
  refine (withCop0_usable _ hu).trans ?_
  simp only [h]

/-- What an MTC0 that completes writes and leaves unchanged. -/
theorem completes_mtc0 {c : Cp0} (hu : s.cop0Usable = true)
    (h : writeCp0 (cp0RegOf s.cfg rd sel) (s.reg rt) s = .ok c) :
    Completes (.mtc0 rt rd sel) s fun t => t.cp0 = c ∧ SameRegs s t ∧ Cp0Frame s t :=
  ⟨_, exec_mtc0_of_ok hu h, rfl, fun _ _ => by simp [State.regOf],
    ⟨⟨by simp, by simp, by simp⟩, by simp, by simp, by simp, by simp, by simp, by simp, by simp, rfl, rfl, by simp, rfl⟩⟩

end Write

/-- The eight fields of SRSMap (R56). -/
theorem srsMapOk_iff (hss : SetNum) (v : Word) :
    srsMapOk hss v = true ↔ ∀ k, k < 8 → (v.extractLsb' (4 * k) 4).toNat ≤ hss.toNat := by
  simp only [srsMapOk, setFieldOk, List.all_cons, List.all_nil, Bool.and_true, Bool.and_eq_true, decide_eq_true_eq]
  constructor
  · rintro ⟨h0, h1, h2, h3, h4, h5, h6, h7⟩ k hk
    interval_cases k <;> assumption
  · exact fun h => ⟨h 0 (by decide), h 1 (by decide), h 2 (by decide), h 3 (by decide), h 4 (by decide), h 5 (by decide),
      h 6 (by decide), h 7 (by decide)⟩

/-- Settles O54: each clause is the value `writeCp0` answers, and the frame is the same for all. -/
theorem moveToCoprocessor0 : Obligations.MoveToCoprocessor0 := by
  unfold Obligations.MoveToCoprocessor0
  intro rt s hu
  have hreg {sel : BitVec 3} {r : Cp0Reg} (htrace : s.cfg.hasTrace = true)
      (h : cp0RegOf s.cfg 23#5 sel = if s.cfg.hasTrace then r else .reserved) : cp0RegOf s.cfg 23#5 sel = r :=
    h.trans (if_pos htrace)
  refine ⟨completes_mtc0 hu rfl, ?readOnly, fun rd sel hreserved => completes_mtc0 hu (by rw [hreserved]; rfl),
    completes_mtc0 hu rfl, completes_mtc0 hu rfl, fun herl => ?status, fun hvs => completes_mtc0 hu (if_pos hvs),
    fun hess hpss => ?srsCtl, ?cause, completes_mtc0 hu rfl, fun hbev => ?ebase, fun hku hk0 => ?config,
    fun hset hfields => ?srsMap, fun hdm => completes_mtc0 hu (if_pos hdm),
    fun h => completes_mtc0 hu (by rw [hreg (r := .traceControl) h rfl]; rfl),
    fun h => completes_mtc0 hu (by rw [hreg (r := .traceControl2) h rfl]; rfl),
    fun h => completes_mtc0 hu (by rw [hreg (r := .userTraceData) h rfl]; rfl),
    fun h => completes_mtc0 hu (by rw [hreg (r := .traceBPC) h rfl]; rfl), fun hbreak => ?debug2,
    completes_mtc0 hu rfl, completes_mtc0 hu rfl, completes_mtc0 hu rfl⟩
  case readOnly =>
    simp only [List.forall_mem_cons, List.not_mem_nil, false_implies, implies_true, and_true]
    exact ⟨completes_mtc0 hu rfl, completes_mtc0 hu rfl, completes_mtc0 hu rfl, completes_mtc0 hu rfl, completes_mtc0 hu rfl⟩
  case status =>
    have hallowed : ((s.reg rt).getLsbD 2 && decide (s.pc.toNat < 0x80000000)) = false := by
      rcases herl with herl | hpc
      · rw [herl, Bool.false_and]
      · simp [hpc.not_gt]
    obtain ⟨t, ht, hcp0, hregs, hframe⟩ := completes_mtc0 (rd := 12#5) (sel := 0#3) hu (if_neg (ne_true_of_eq_false hallowed))
    refine ⟨t, ht, ⟨_, hcp0⟩, ?_, hregs, hframe⟩
    change t.cp0.status.toWord = _
    rw [hcp0]
    exact Status.toWord_write _ _
  case srsCtl => exact completes_mtc0 hu (if_pos (by rw [setFieldOk, setFieldOk, decide_eq_true hess, decide_eq_true hpss]; rfl))
  case cause =>
    obtain ⟨t, ht, hcp0, hregs, hframe⟩ := completes_mtc0 (rt := rt) (rd := 13#5) (sel := 0#3) hu rfl
    refine ⟨t, ht, ⟨_, hcp0⟩, ?_, hregs, hframe⟩
    change causeWord t.intReq.ripl t.cp0.cause = _
    rw [hcp0, hframe.intReq]
    exact causeWord_write _ _ _
  case ebase => exact completes_mtc0 hu (if_neg (by rcases hbev with h | h <;> simp [h]))
  case config => exact completes_mtc0 hu (if_pos (by rw [hku, hk0]; rfl))
  case srsMap => exact completes_mtc0 hu ((if_neg hset).trans (if_pos ((srsMapOk_iff _ _).mpr hfields)))
  case debug2 =>
    have hreg : cp0RegOf s.cfg 23#5 5#3 = .debug2 := if_pos hbreak
    exact completes_mtc0 hu (by rw [hreg]; rfl)

/-- Settles O55: each clause is the error `writeCp0` answers. -/
theorem refusedCoprocessor0Writes : Obligations.RefusedCoprocessor0Writes := by
  unfold Obligations.RefusedCoprocessor0Writes
  refine fun rt s hu => ⟨fun hvs => ?intCtl, fun hset => ?srsCtl, fun hset => exec_mtc0_of_error hu (if_pos hset),
    fun hset k hk hfield => ?srsMap, fun hbev hebase => ?ebase, fun hattr => ?config, fun herl hpc => ?status,
    fun hdm => exec_mtc0_of_error hu (if_neg (ne_true_of_eq_false hdm))⟩
  case intCtl => exact exec_mtc0_of_error hu (if_neg (by simpa [legalSpacing, and_assoc] using hvs))
  case srsCtl => exact exec_mtc0_of_error hu (if_neg (by simpa [setFieldOk, imp_iff_not_or] using hset))
  case srsMap =>
    have hbad : ¬srsMapOk s.cfg.shadowSets.hss (s.reg rt) = true := fun hok =>
      hfield.not_ge ((srsMapOk_iff _ _).mp hok k hk)
    exact exec_mtc0_of_error hu ((if_neg hset).trans (if_neg hbad))
  case ebase => exact exec_mtc0_of_error hu (if_pos (by simp [hbev, hebase]))
  case config => exact exec_mtc0_of_error hu (if_neg (by simpa [legalCoherency, imp_iff_not_or] using hattr))
  case status => exact exec_mtc0_of_error hu (if_pos (by simp [herl, hpc]))

end Sys2Proof.Machine
end

section
/-!
The scoreboard of hazards (70_reset_and_hazards.md R571 to R574): how long a row stays on it, what an instruction sees
through it, and where it sees nothing.
-/
namespace Sys2Proof.Machine

open Sys2Proof

/-! ## The scoreboard (R571, R574) -/

/-- The spacing of a row of Table 2-1. -/
def HazardRow.spacing : HazardRow → Nat
  | .cu0 | .returnPc | .ie | .pss => 1
  | .other => 2
  | .ip => 3
  | .compare => 4

/-- On a scoreboard after `n` steps each row has what is left of its spacing. -/
def Spaced (n : Nat) (l : List Hazard) : Prop := ∀ x ∈ l, x.left + n = x.row.spacing

theorem mem_tickHazards {l : List Hazard} {x : Hazard} :
    x ∈ tickHazards l ↔ ∃ y ∈ l, 0 < y.left ∧ { y with left := y.left - 1 } = x := by
  simp [tickHazards, and_assoc]

theorem Spaced.tick {n : Nat} {l : List Hazard} (h : Spaced n l) : Spaced (n + 1) (tickHazards l) := by
  intro x hx
  obtain ⟨y, hy, hleft, rfl⟩ := mem_tickHazards.mp hx
  have hspaced := h y hy
  change y.left - 1 + (n + 1) = y.row.spacing
  omega

/-- No row is left longer than its spacing. -/
theorem Spaced.le {n : Nat} {l : List Hazard} (h : Spaced n l) : ∀ x ∈ l, n ≤ x.row.spacing := fun x hx => by
  have := h x hx
  omega

/-- A row whose spacing is not over stays. -/
theorem Spaced.mem_tick {n : Nat} {l : List Hazard} (h : Spaced n l) {x : Hazard} (hx : x ∈ l) (hn : n < x.row.spacing) :
    { x with left := x.left - 1 } ∈ tickHazards l := by
  have := h x hx
  exact mem_tickHazards.mpr ⟨x, hx, by omega, rfl⟩

/-- A property of the rows of a scoreboard that its step does not concern. -/
theorem forall_mem_tickHazards {p : HazardRow → Cp0Reg → Cp0 → Prop} {l : List Hazard}
    (h : ∀ x ∈ l, p x.row x.reg x.old) : ∀ x ∈ tickHazards l, p x.row x.reg x.old := by
  intro x hx
  obtain ⟨y, hy, -, rfl⟩ := mem_tickHazards.mp hx
  exact h y hy

theorem rowPending_iff {row : HazardRow} {reg : Cp0Reg} {s : State} :
    rowPending row reg s = true ↔ ∃ x ∈ s.hazards, x.row = row ∧ x.reg = reg := by
  simp [rowPending]

theorem rowPending_eq_false {row : HazardRow} {reg : Cp0Reg} {s : State}
    (h : ∀ x ∈ s.hazards, x.row = row → x.reg ≠ reg) : rowPending row reg s = false :=
  Bool.eq_false_iff.mpr fun hp => by
    obtain ⟨x, hx, hrow, hreg⟩ := rowPending_iff.mp hp
    exact h x hx hrow hreg

/-! ## What is seen through it -/

/-- What every pending write keeps, every value seen has. -/
theorem forall_mem_viewsThrough {p : Cp0 → Prop} {l : List Hazard}
    (hview : ∀ x ∈ l, ∀ v, p v → ∀ c ∈ x.view v, p c) {vs : List Cp0} (hvs : ∀ c ∈ vs, p c) :
    ∀ c ∈ l.foldl (fun vs x => vs ++ vs.flatMap x.view) vs, p c := by
  induction l generalizing vs with
  | nil => exact hvs
  | cons x l ih =>
    refine ih (fun y hy => hview y (List.mem_cons_of_mem _ hy)) fun c hc => ?_
    obtain hc | hc := List.mem_append.mp hc
    · exact hvs c hc
    · obtain ⟨v, hv, hcv⟩ := List.mem_flatMap.mp hc
      exact hview x List.mem_cons_self v (hvs v hv) c hcv

/-- What one pending write shows of a value, an instruction may see. -/
theorem mem_viewsThrough_of_view {l : List Hazard} {x : Hazard} (hx : x ∈ l) {v c : Cp0} (hc : c ∈ x.view v)
    {vs : List Cp0} (hv : v ∈ vs) : c ∈ l.foldl (fun vs x => vs ++ vs.flatMap x.view) vs := by
  induction l generalizing vs with
  | nil => exact absurd hx List.not_mem_nil
  | cons y l ih =>
    obtain rfl | hx := List.mem_cons.mp hx
    · exact mem_viewsThrough l (List.mem_append_right _ (List.mem_flatMap.mpr ⟨v, hv, hc⟩))
    · exact ih hx (List.mem_append_left _ hv)

theorem State.view_mem_views {s : State} {x : Hazard} (hx : x ∈ s.hazards) {c : Cp0} (hc : c ∈ x.view s.cp0) :
    c ∈ s.views := mem_viewsThrough_of_view hx hc (List.mem_singleton_self _)

theorem State.sees_of_mem {α : Type} [DecidableEq α] {s : State} {f : Cp0 → α} {c : Cp0} (hc : c ∈ s.views)
    (h : f c ≠ f s.cp0) : s.sees f = true := List.any_eq_true.mpr ⟨c, hc, by simpa using h⟩

/-- A write keeps CU0 and IE for those who look through the row of any register: these have rows of their own. -/
theorem Cp0.withOld_cu0 (v : Cp0) (r : Cp0Reg) (old : Cp0) : (v.withOld r old).status.cu0 = v.status.cu0 := by
  cases r <;> rfl

theorem Cp0.withOld_ie (v : Cp0) (r : Cp0Reg) (old : Cp0) : (v.withOld r old).status.ie = v.status.ie := by
  cases r <;> rfl

/-- Of Status and Debug it shows the new value or the old one. -/
theorem Cp0.withOld_mode (v : Cp0) (r : Cp0Reg) (old : Cp0) :
    ((v.withOld r old).dbg = v.dbg ∨ (v.withOld r old).dbg = old.dbg) ∧
      ∀ dm, inUserMode dm (v.withOld r old).status = inUserMode dm v.status ∨
        inUserMode dm (v.withOld r old).status = inUserMode dm old.status := by
  cases r
  case status => exact ⟨.inl rfl, fun _ => .inr rfl⟩
  case debugReg => exact ⟨.inr rfl, fun _ => .inl rfl⟩
  all_goals exact ⟨.inl rfl, fun _ => .inl rfl⟩

/-- The rows that let an instruction see something. -/
theorem Hazard.view_eq_nil {x : Hazard} (h : 3 ≤ x.row.spacing) (v : Cp0) : x.view v = [] := by
  unfold Hazard.view
  split <;> simp_all [HazardRow.spacing]

section Seen
variable {s : State}

/-- After the second place nothing is seen. -/
theorem State.views_of_spaced (h : Spaced 3 s.hazards) : ∀ c ∈ s.views, c = s.cp0 :=
  forall_mem_viewsThrough (p := (· = s.cp0)) (fun x hx v _ c hc => by
    rw [Hazard.view_eq_nil (h.le x hx)] at hc
    exact absurd hc List.not_mem_nil) (by simp)

/-- Where Coprocessor 0 is seen as it is, and no row that an instruction looks up is pending, none sees a hazard. -/
theorem hazardSeen_eq_false (hviews : ∀ c ∈ s.views, c = s.cp0) (hrows : ∀ x ∈ s.hazards, 3 ≤ x.row.spacing) (i : Instr) :
    hazardSeen i s = false := by
  have hsees {α : Type} [DecidableEq α] (f : Cp0 → α) : s.sees f = false :=
    State.sees_eq_false_iff.mpr fun c hc => by rw [hviews c hc]
  have hrow (row : HazardRow) (reg : Cp0Reg) (h : row.spacing < 3) : rowPending row reg s = false :=
    rowPending_eq_false fun x hx hrow => absurd (hrow ▸ hrows x hx) h.not_ge
  have hother (reg : Cp0Reg) := hrow .other reg (by decide)
  have hreturn (reg : Cp0Reg) := hrow .returnPc reg (by decide)
  have hpss (reg : Cp0Reg) := hrow .pss reg (by decide)
  have hcop0 : cop0Hazard s = false := hsees _
  have heret : eretHazard s = false := by simp [eretHazard, hreturn, hother]
  cases i <;> simp [hazardSeen, accessHazard, synciHazard, readHazard, writeHazard, rdhwrHazard, hsees, hother, hreturn, hpss,
    hcop0, heret, eretUseHazard_eq_false hcop0]

/-- Where no row on CU0 is pending, ERET is as usable as it is after the write (R571). -/
theorem eretUseHazard_of_no_row (h : ∀ x ∈ s.hazards, x.row ≠ .cu0) : eretUseHazard s = false := by
  have hnone : (s.hazards.filter fun x => decide (x.row = .cu0)) = [] := by simpa [List.filter_eq_nil_iff] using h
  simp [eretUseHazard, hnone, viewsThrough]

/-- In User mode CU0 decides whether Coprocessor 0 is usable. -/
theorem eretUseHazard_of_row (huser : s.userMode = true) {x : Hazard} (hx : x ∈ s.hazards) (hrow : x.row = .cu0)
    (hold : x.old.status.cu0 ≠ s.cp0.status.cu0) : eretUseHazard s = true := by
  refine List.any_eq_true.mpr ⟨{ s.cp0 with status := { s.cp0.status with cu0 := x.old.status.cu0 } }, ?_, ?_⟩
  · refine mem_viewsThrough_of_view (List.mem_filter.mpr ⟨hx, decide_eq_true hrow⟩) ?_ (List.mem_singleton_self _)
    simp [Hazard.view, hrow]
  · have huser' : inUserMode s.cp0.dbg.dm { s.cp0.status with cu0 := x.old.status.cu0 } = true := huser
    have huser'' : inUserMode s.cp0.dbg.dm s.cp0.status = true := huser
    simpa [cop0UsableUnder, cop0UsableIn, huser', huser''] using hold

/-- A word that begins with the check of Coprocessor 0 is refused where a pending write decides it. -/
theorem WordNeedsCop0.runDecoded_refused {d : Decoded} (h : WordNeedsCop0 d) (heret : eretUseHazard s = true) :
    runDecoded d s = .refused .executionHazard := by
  have hcop0 : cop0Hazard s = true := by
    by_contra hne
    exact absurd (eretUseHazard_eq_false (Bool.eq_false_iff.mpr hne)) (by simp [heret])
  cases h with
  | instr hi => cases hi <;> simp [runDecoded, hazardSeen, hcop0, heret]
  | reserved => simp [runDecoded, hcop0]
  | mustBeZero => simp [runDecoded, hcop0]

theorem runDecoded_of_hazardSeen {i : Instr} (h : hazardSeen i s = true) :
    runDecoded (.instr i) s = .refused .executionHazard := if_pos h

end Seen

end Sys2Proof.Machine
end

section
/-!
An MTC0 and the instructions in the first, second and third place after it (44_coprocessor.md R432, 70_reset_and_hazards.md
R571 to R574). O59 assembled from these.
-/
namespace Sys2Proof.Machine

open Sys2Proof

/-! ## What an MTC0 writes and the rows it creates (R432, R571) -/

/-- Only a write of its own register changes a field that Table 2-1 names, and none changes DM. -/
structure Keeps (r : Cp0Reg) (c d : Cp0) : Prop where
  status : r ≠ .status → d.status = c.status
  srs : r ≠ .srsCtl → d.srs = c.srs
  epc : r ≠ .epc → d.epc = c.epc
  errorEpc : r ≠ .errorEpc → d.errorEpc = c.errorEpc
  depc : r ≠ .depc → d.depc = c.depc
  dm : d.dbg.dm = c.dbg.dm

/-- A pending write belongs to register `r`, or to Cause where Cause.TI changed; it has seen `s` before the write. -/
structure RowOf (r : Cp0Reg) (s t : State) (row : HazardRow) (reg : Cp0Reg) (old : Cp0) : Prop where
  old : old = s.cp0
  other : row = .other → reg = r ∨ reg = .cause
  returnPc : row = .returnPc → reg = r
  cu0 : row = .cu0 → s.cp0.status.cu0 ≠ t.cp0.status.cu0

/-- `t` is the state after an MTC0 of `v` to register `r` in `s`, where no hazard was pending. -/
structure AfterMtc0 (r : Cp0Reg) (v : Word) (s t : State) : Prop where
  write : writeCp0 r v s = .ok t.cp0
  hazards : t.hazards = createdHazards r s t
  cfg : t.cfg = s.cfg
  intReq : t.intReq = s.intReq

theorem keeps_writeCp0 {r : Cp0Reg} {v : Word} {s : State} {c : Cp0} (h : writeCp0 r v s = .ok c) : Keeps r s.cp0 c := by
  cases r <;> simp only [writeCp0] at h
  case srsMap =>
    split at h
    · cases h
    · split at h <;> cases h
      constructor <;> intros <;> rfl
  case status | intCtl | srsCtl | ebase | config | debugReg =>
    split at h <;> cases h
    constructor <;> simp [Debug.write]
  all_goals
    cases h
    constructor <;> simp

theorem eq_hazardEntry_of_mem_ite {p : Prop} [Decidable p] {x y : Hazard} (h : x ∈ if p then [] else [y]) : ¬p ∧ x = y := by
  split at h
  · exact absurd h List.not_mem_nil
  · next hp => exact ⟨hp, List.mem_singleton.mp h⟩

/-- The rows with a name are rows of the register written, with their spacings. -/
theorem exists_of_mem_namedRows {r : Cp0Reg} {s t : State} {x : Hazard} (h : x ∈ namedRows r s t) :
    ∃ row, x = hazardEntry row r row.spacing s ∧ row ≠ .other ∧ (row = .cu0 → s.cp0.status.cu0 ≠ t.cp0.status.cu0) := by
  cases r
  case status =>
    obtain h | h := List.mem_append.mp h
    · obtain ⟨hcu0, rfl⟩ := eq_hazardEntry_of_mem_ite h
      exact ⟨.cu0, rfl, by decide, fun _ => hcu0⟩
    · obtain ⟨-, rfl⟩ := eq_hazardEntry_of_mem_ite h
      exact ⟨.ie, rfl, by decide, nofun⟩
  case cause =>
    obtain ⟨-, rfl⟩ := eq_hazardEntry_of_mem_ite h
    exact ⟨.ip, rfl, by decide, nofun⟩
  case srsCtl =>
    obtain ⟨-, rfl⟩ := eq_hazardEntry_of_mem_ite h
    exact ⟨.pss, rfl, by decide, nofun⟩
  case epc | depc | errorEpc =>
    obtain rfl := List.mem_singleton.mp h
    exact ⟨.returnPc, rfl, by decide, nofun⟩
  case compare =>
    obtain rfl := List.mem_singleton.mp h
    exact ⟨.compare, rfl, by decide, nofun⟩
  all_goals exact absurd h List.not_mem_nil

theorem mem_createdHazards {r : Cp0Reg} {s t : State} {x : Hazard} (h : x ∈ createdHazards r s t) :
    x = hazardEntry .other r 2 s ∨ x ∈ namedRows r s t ∨ x = hazardEntry .other .cause 2 s := by
  obtain h | h := List.mem_append.mp h
  · split at h
    · exact absurd h List.not_mem_nil
    · exact (List.mem_cons.mp h).imp_right .inl
  · exact .inr (.inr (eq_hazardEntry_of_mem_ite h).2)

theorem rowOf_createdHazards (r : Cp0Reg) (s t : State) :
    ∀ x ∈ createdHazards r s t, RowOf r s t x.row x.reg x.old := by
  intro x hx
  obtain rfl | hx | rfl := mem_createdHazards hx
  · exact ⟨rfl, fun _ => .inl rfl, nofun, nofun⟩
  · obtain ⟨row, rfl, hother, hcu0⟩ := exists_of_mem_namedRows hx
    exact ⟨rfl, fun h => absurd h hother, fun _ => rfl, hcu0⟩
  · exact ⟨rfl, fun _ => .inr rfl, nofun, nofun⟩

theorem spaced_createdHazards (r : Cp0Reg) (s t : State) : Spaced 0 (createdHazards r s t) := by
  intro x hx
  obtain rfl | hx | rfl := mem_createdHazards hx
  · rfl
  · obtain ⟨row, rfl, -, -⟩ := exists_of_mem_namedRows hx
    rfl
  · rfl

/-- A write that changes the word of its register creates the row of any register and the rows with a name. -/
theorem mem_createdHazards_of_ne {r : Cp0Reg} {s t : State} (h : s.cp0Word r ≠ t.cp0Word r) {x : Hazard}
    (hx : x = hazardEntry .other r 2 s ∨ x ∈ namedRows r s t) : x ∈ createdHazards r s t := by
  refine List.mem_append_left _ ?_
  rw [if_neg h]
  exact List.mem_cons.mpr hx

theorem State.advance_hazards_of_none {s : State} (h : s.hazards = []) : s.advance.hazards = [] := by
  unfold State.advance
  split
  · exact h
  · split
    · rfl
    · exact h

namespace AfterMtc0
variable {r : Cp0Reg} {v : Word} {s t : State}

theorem of_exec {rt rd : Reg} {sel : BitVec 3} (hnone : s.hazards = []) (hu : s.cop0Usable = true)
    (h : exec (.mtc0 rt rd sel) s = .next t) : AfterMtc0 (cp0RegOf s.cfg rd sel) (s.reg rt) s t := by
  have hadvance : s.advance.hazards = [] := State.advance_hazards_of_none hnone
  cases hwrite : writeCp0 (cp0RegOf s.cfg rd sel) (s.reg rt) s with
  | error why => exact nomatch (exec_mtc0_of_error hu hwrite).symm.trans h
  | ok c =>
    obtain rfl := Host.Outcome.next.inj ((exec_mtc0_of_ok hu hwrite).symm.trans h)
    exact ⟨hwrite, (congrArg _ hadvance).trans (List.append_nil _), by simp, by simp⟩

theorem keeps (h : AfterMtc0 r v s t) : Keeps r s.cp0 t.cp0 := keeps_writeCp0 h.write

theorem spaced (h : AfterMtc0 r v s t) : Spaced 0 t.hazards := h.hazards ▸ spaced_createdHazards r s t

theorem rowOf (h : AfterMtc0 r v s t) : ∀ x ∈ t.hazards, RowOf r s t x.row x.reg x.old :=
  h.hazards ▸ rowOf_createdHazards r s t

/-- The step of the scoreboard concerns neither the row nor the register nor the old value. -/
theorem rowOf_first (h : AfterMtc0 r v s t) : ∀ x ∈ t.ticked.hazards, RowOf r s t x.row x.reg x.old :=
  forall_mem_tickHazards h.rowOf

theorem rowOf_second (h : AfterMtc0 r v s t) : ∀ x ∈ t.ticked.ticked.hazards, RowOf r s t x.row x.reg x.old :=
  forall_mem_tickHazards h.rowOf_first

/-- Every row is there in the first place after the write. -/
theorem exists_first (h : AfterMtc0 r v s t) {x : Hazard} (hx : x ∈ t.hazards) :
    ∃ y ∈ t.ticked.hazards, y.row = x.row ∧ y.reg = x.reg ∧ y.old = x.old :=
  ⟨_, h.spaced.mem_tick hx (by cases x.row <;> decide), rfl, rfl, rfl⟩

/-- The row of any register is there in the second place too. -/
theorem exists_second (h : AfterMtc0 r v s t) {x : Hazard} (hx : x ∈ t.hazards) (hrow : x.row = .other) :
    ∃ y ∈ t.ticked.ticked.hazards, y.row = x.row ∧ y.reg = x.reg ∧ y.old = x.old :=
  ⟨_, h.spaced.tick.mem_tick (h.spaced.mem_tick hx (by rw [hrow]; decide)) (by rw [hrow]; decide), rfl, rfl, rfl⟩

section Changed
variable (h : AfterMtc0 r v s t) (hne : s.cp0Word r ≠ t.cp0Word r)
include h hne

theorem other_first : ∃ y ∈ t.ticked.hazards, y.row = .other ∧ y.reg = r ∧ y.old = s.cp0 :=
  h.exists_first (h.hazards ▸ mem_createdHazards_of_ne hne (.inl rfl))

theorem other_second : ∃ y ∈ t.ticked.ticked.hazards, y.row = .other ∧ y.reg = r ∧ y.old = s.cp0 :=
  h.exists_second (h.hazards ▸ mem_createdHazards_of_ne hne (.inl rfl)) rfl

theorem otherPending_first : rowPending .other r t.ticked = true := by
  obtain ⟨y, hy, hrow, hreg, -⟩ := h.other_first hne
  exact rowPending_iff.mpr ⟨y, hy, hrow, hreg⟩

theorem otherPending_second : rowPending .other r t.ticked.ticked = true := by
  obtain ⟨y, hy, hrow, hreg, -⟩ := h.other_second hne
  exact rowPending_iff.mpr ⟨y, hy, hrow, hreg⟩

theorem named_first {x : Hazard} (hx : x ∈ namedRows r s t) :
    ∃ y ∈ t.ticked.hazards, y.row = x.row ∧ y.reg = x.reg ∧ y.old = x.old :=
  h.exists_first (h.hazards ▸ mem_createdHazards_of_ne hne (.inr hx))

theorem namedPending_first {x : Hazard} (hx : x ∈ namedRows r s t) : rowPending x.row x.reg t.ticked = true := by
  obtain ⟨y, hy, hrow, hreg, -⟩ := h.named_first hne hx
  exact rowPending_iff.mpr ⟨y, hy, hrow, hreg⟩

end Changed

/-- In the second place only the row of any register shows something (R571). -/
theorem spacing_second (h : AfterMtc0 r v s t) : ∀ x ∈ t.ticked.ticked.hazards, 2 ≤ x.row.spacing := h.spaced.tick.tick.le

theorem notPending_second (h : AfterMtc0 r v s t) (row : HazardRow) (reg : Cp0Reg) (hrow : row.spacing < 2) :
    rowPending row reg t.ticked.ticked = false :=
  rowPending_eq_false fun x hx hxrow => absurd (hxrow ▸ h.spacing_second x hx) hrow.not_ge

/-- What is seen in the second place is the new value, or the old one of what has no row of its own. -/
theorem forall_mem_views_second (h : AfterMtc0 r v s t) {p : Cp0 → Prop} (hnew : p t.cp0)
    (hold : ∀ v reg, p v → p (v.withOld reg s.cp0)) : ∀ c ∈ t.ticked.ticked.views, p c := by
  refine forall_mem_viewsThrough (fun x hx w hw c hc => ?_) (by simpa using hnew)
  have hspacing := h.spacing_second x hx
  unfold Hazard.view at hc
  split at hc
  case h_1 hrow | h_2 hrow => exact absurd (hrow ▸ hspacing) (by decide)
  case h_3 =>
    rw [List.mem_singleton.mp hc, (h.rowOf_second x hx).old]
    exact hold w x.reg hw
  all_goals exact absurd hc List.not_mem_nil

/-- With the mode as before the MTC0, none sees its change of CU0 in the second place. -/
theorem cop0Hazard_second (h : AfterMtc0 r v s t) (hmode : t.userMode = s.userMode) : cop0Hazard t.ticked.ticked = false := by
  have hdm := h.keeps.dm
  have hseen := h.forall_mem_views_second
    (p := fun c => c.dbg.dm = t.cp0.dbg.dm ∧ inUserMode t.cp0.dbg.dm c.status = t.userMode ∧
      c.status.cu0 = t.cp0.status.cu0) ⟨rfl, rfl, rfl⟩ fun w reg ⟨hw, huser, hcu0⟩ => ⟨?_, ?_, ?_⟩
  case refine_1 => rcases (w.withOld_mode reg s.cp0).1 with heq | heq <;> rw [heq] <;> simp [hw, hdm]
  case refine_2 =>
    rcases (w.withOld_mode reg s.cp0).2 t.cp0.dbg.dm with heq | heq <;> rw [heq]
    · exact huser
    · rw [hmode, hdm]
      rfl
  case refine_3 => rw [Cp0.withOld_cu0, hcu0]
  refine State.sees_eq_false_iff.mpr fun c hc => ?_
  obtain ⟨hcdm, huser, hcu0⟩ := hseen c hc
  change (!inUserMode c.dbg.dm c.status || c.status.cu0) = (!t.userMode || t.cp0.status.cu0)
  rw [hcdm, huser, hcu0]

/-- ERET sees neither row on CU0 nor row on a return address in the second place. -/
theorem eret_second (h : AfterMtc0 r v s t) (hr : r ≠ .srsCtl) : hazardSeen .eret t.ticked.ticked = false := by
  have huse : eretUseHazard t.ticked.ticked = false :=
    eretUseHazard_of_no_row fun x hx hrow => absurd (hrow ▸ h.spacing_second x hx) (by decide)
  have hpss : rowPending .other .srsCtl t.ticked.ticked = false := rowPending_eq_false fun x hx hrow => by
    rcases (h.rowOf_second x hx).other hrow with hreg | hreg <;> rw [hreg]
    · exact hr
    · decide
  have hpc (reg : Cp0Reg) := h.notPending_second .returnPc reg (by decide)
  simp [hazardSeen, huse, eretHazard, hpss, hpc]

end AfterMtc0

/-! ## A field that changes changes the word of its register (10_state.md R37, R50) -/

theorem Status.getLsbD_toWord_cu0 (c : Status) : c.toWord.getLsbD 28 = c.cu0 := by
  simp only [Status.getLsbD_toWord, BitVec.getLsbD_append]
  simp

theorem Status.getLsbD_toWord_bev (c : Status) : c.toWord.getLsbD 22 = c.bev := by
  simp only [Status.getLsbD_toWord, BitVec.getLsbD_append]
  simp

theorem Status.getLsbD_toWord_ie (c : Status) : c.toWord.getLsbD 0 = c.ie := by
  simp only [Status.getLsbD_toWord, BitVec.getLsbD_append]
  simp

theorem getLsbD_srsCtlWord (hss eicss : SetNum) (c : SrsCtl) (k : Nat) : (srsCtlWord hss eicss c).getLsbD k =
    BitVec.getLsbD (0#4 ++ hss ++ 0#6 ++ eicss ++ 0#4 ++ c.ess ++ 0#4 ++ c.pss ++ 0#4 ++ c.css) k := rfl

theorem getLsbD_srsCtlWord_pss (hss eicss : SetNum) (c : SrsCtl) {k : Nat} (hk : k < 2) :
    (srsCtlWord hss eicss c).getLsbD (k + 6) = c.pss.getLsbD k := by
  simp only [getLsbD_srsCtlWord, BitVec.getLsbD_append]
  interval_cases k <;> simp

/-! ## The entry of Sys while BEV is pending -/

/-- The two bases of an exception are never the same address (60_exceptions.md R486). -/
theorem exceptionBase_ne {c d : Cp0} (h : c.status.bev ≠ d.status.bev) : exceptionBase c ≠ exceptionBase d := by
  have hne (ebase : BitVec 18) : (0xBFC00200#32 : Word) ≠ 0b10#2 ++ ebase ++ 0x000#12 := fun heq => by
    have hnat := congrArg BitVec.toNat heq
    rw [toNat_ebase, BitVec.toNat_ofNat] at hnat
    omega
  unfold exceptionBase
  cases hc : c.status.bev <;> cases hd : d.status.bev
  · exact absurd (hc.trans hd.symm) h
  · exact (hne _).symm
  · exact hne _
  · exact absurd (hc.trans hd.symm) h

/-- SYSCALL is never vectored (R487). -/
theorem exceptionOffset_sys (c : Cp0) (r : IntReq) : exceptionOffset .sys c r = 0x180#32 := by
  simp [exceptionOffset, vectoredInt]

/-- The entry of Sys depends on a pending write of Status that changed BEV (R574). -/
theorem entryHazard_sys_of_row {s : State} (hdm : s.cp0.dbg.dm = false) {x : Hazard} (hx : x ∈ s.hazards)
    (hrow : x.row = .other) (hreg : x.reg = .status) (hold : x.old.status.bev ≠ s.cp0.status.bev) :
    entryHazard .sys s = true := by
  have hview : s.cp0.withOld .status x.old ∈ s.views := State.view_mem_views hx (by simp [Hazard.view, hrow, hreg])
  have hbase : exceptionBase (s.cp0.withOld .status x.old) ≠ exceptionBase s.cp0 := exceptionBase_ne hold
  have hpoint : entryPoint .sys s.intReq (s.cp0.withOld .status x.old) ≠ entryPoint .sys s.intReq s.cp0 := by
    intro heq
    have hpc := congrArg Prod.fst heq
    simp only [entryPoint, exceptionOffset_sys] at hpc
    exact hbase ((BitVec.add_left_inj _).mp hpc)
  rw [entryHazard, hdm, State.sees_of_mem hview hpoint]
  rfl

theorem runDecoded_syscall_of_entryHazard {s : State} (code : BitVec 20) (h : entryHazard .sys s = true) :
    runDecoded (.instr (.syscall code)) s = .refused .executionHazard :=
  (takes_takeException .sys s).pending h

/-- A row that ERET looks up. -/
theorem runDecoded_eret_refused {s : State} (hu : s.cop0Usable = true) (h : eretHazard s = true) :
    runDecoded (.instr .eret) s = .refused .executionHazard :=
  runDecoded_of_hazardSeen (by simp [hazardSeen, hu, h])

/-! ## The clauses of Table 2-1 -/

namespace AfterMtc0
variable {r : Cp0Reg} {v : Word} {s t : State}

/-- Only an MTC0 to Status changes a field of Status. -/
theorem status_of_ne {α : Type} (h : AfterMtc0 r v s t) (f : Status → α) (hne : f s.cp0.status ≠ f t.cp0.status) :
    r = .status := by
  by_contra hr
  exact hne (congrArg f (h.keeps.status hr)).symm

theorem status_cu0 (h : AfterMtc0 r v s t) (hne : s.cp0.status.cu0 ≠ t.cp0.status.cu0) :
    r = .status ∧ s.cp0Word .status ≠ t.cp0Word .status :=
  ⟨h.status_of_ne Status.cu0 hne, fun heq =>
    hne (by rw [← Status.getLsbD_toWord_cu0, ← Status.getLsbD_toWord_cu0]; exact congrArg (BitVec.getLsbD · 28) heq)⟩

theorem status_bev (h : AfterMtc0 r v s t) (hne : s.cp0.status.bev ≠ t.cp0.status.bev) :
    r = .status ∧ s.cp0Word .status ≠ t.cp0Word .status :=
  ⟨h.status_of_ne Status.bev hne, fun heq =>
    hne (by rw [← Status.getLsbD_toWord_bev, ← Status.getLsbD_toWord_bev]; exact congrArg (BitVec.getLsbD · 22) heq)⟩

theorem status_ie (h : AfterMtc0 r v s t) (hne : s.cp0.status.ie ≠ t.cp0.status.ie) :
    r = .status ∧ s.cp0Word .status ≠ t.cp0Word .status :=
  ⟨h.status_of_ne Status.ie hne, fun heq =>
    hne (by rw [← Status.getLsbD_toWord_ie, ← Status.getLsbD_toWord_ie]; exact congrArg (BitVec.getLsbD · 0) heq)⟩

theorem srsCtl_pss (h : AfterMtc0 r v s t) (hne : s.cp0.srs.pss ≠ t.cp0.srs.pss) :
    r = .srsCtl ∧ s.cp0Word .srsCtl ≠ t.cp0Word .srsCtl := by
  refine ⟨?_, fun heq => hne (BitVec.eq_of_getLsbD_eq fun k hk => ?_)⟩
  · by_contra hr
    exact hne (congrArg SrsCtl.pss (h.keeps.srs hr)).symm
  · rw [← getLsbD_srsCtlWord_pss _ _ s.cp0.srs hk, ← getLsbD_srsCtlWord_pss _ _ t.cp0.srs hk]
    exact congrArg (BitVec.getLsbD · (k + 6)) heq

/-- In the third place no row that shows something is left. -/
theorem third (h : AfterMtc0 r v s t) : Spaced 3 t.ticked.ticked.ticked.hazards := h.spaced.tick.tick.tick

/-- CU0: ERET and every word with opcode COP0 or CACHE in the first place, from User mode. -/
theorem eretUseHazard_first (h : AfterMtc0 r v s t) (hne : s.cp0.status.cu0 ≠ t.cp0.status.cu0)
    (huser : t.userMode = true) : eretUseHazard t.ticked = true := by
  obtain ⟨rfl, hword⟩ := h.status_cu0 hne
  have hmem : hazardEntry .cu0 .status 1 s ∈ namedRows .status s t := by
    refine List.mem_append_left _ ?_
    rw [if_neg hne]
    exact List.mem_singleton_self _
  obtain ⟨y, hy, hrow, -, hold⟩ := h.named_first hword hmem
  refine eretUseHazard_of_row huser hy hrow ?_
  rw [hold]
  exact hne

/-- EPC and ErrorEPC: the register that ERET reads. -/
theorem eret_returnPc (h : AfterMtc0 r v s t) (hu : t.cop0Usable = true)
    (hne : (t.cp0.status.erl = false ∧ s.cp0.epc ≠ t.cp0.epc) ∨
      (t.cp0.status.erl = true ∧ s.cp0.errorEpc ≠ t.cp0.errorEpc)) :
    runDecoded (.instr .eret) t.ticked = .refused .executionHazard ∧ hazardSeen .eret t.ticked.ticked = false := by
  rcases hne with ⟨herl, hne⟩ | ⟨herl, hne⟩
  · obtain rfl : r = .epc := by
      by_contra hr
      exact hne (h.keeps.epc hr).symm
    have hpending := h.namedPending_first hne (List.mem_singleton_self (hazardEntry .returnPc .epc 1 s))
    exact ⟨runDecoded_eret_refused hu (by simpa [eretHazard, herl] using .inl hpending), h.eret_second (by decide)⟩
  · obtain rfl : r = .errorEpc := by
      by_contra hr
      exact hne (h.keeps.errorEpc hr).symm
    have hpending := h.namedPending_first hne (List.mem_singleton_self (hazardEntry .returnPc .errorEpc 1 s))
    exact ⟨runDecoded_eret_refused hu (by simpa [eretHazard, herl, hazardEntry] using hpending), h.eret_second (by decide)⟩

/-- DEPC: DERET in Debug mode, where the mode is not User mode before or after. -/
theorem deret_depc (h : AfterMtc0 r v s t) (hu : t.cop0Usable = true) (hdm : t.cp0.dbg.dm = true)
    (hne : s.cp0.depc ≠ t.cp0.depc) :
    runDecoded (.instr .deret) t.ticked = .refused .executionHazard ∧ hazardSeen .deret t.ticked.ticked = false := by
  obtain rfl : r = .depc := by
    by_contra hr
    exact hne (h.keeps.depc hr).symm
  have hpending := h.namedPending_first hne (List.mem_singleton_self (hazardEntry .returnPc .depc 1 s))
  have hmode : t.userMode = s.userMode := by simp [State.userMode, inUserMode, ← h.keeps.dm, hdm]
  have hfirst : hazardSeen .deret t.ticked = true := by
    have hu' : t.ticked.cop0Usable = true := hu
    have hrow : rowPending .returnPc .depc t.ticked = true := hpending
    simp [hazardSeen, hu', hdm, hrow]
  exact ⟨runDecoded_of_hazardSeen hfirst, by
    simp [hazardSeen, h.cop0Hazard_second hmode, h.notPending_second .returnPc .depc (by decide)]⟩

/-- Status with CU0 unchanged: the spacing of ERET on it is 0. -/
theorem eret_status_first (h : AfterMtc0 r v s t) (hr : r = .status) (hcu0 : s.cp0.status.cu0 = t.cp0.status.cu0) :
    hazardSeen .eret t.ticked = false := by
  subst hr
  have huse : eretUseHazard t.ticked = false :=
    eretUseHazard_of_no_row fun x hx hrow => (h.rowOf_first x hx).cu0 hrow hcu0
  have hpss : rowPending .other .srsCtl t.ticked = false := rowPending_eq_false fun x hx hrow => by
    rcases (h.rowOf_first x hx).other hrow with hreg | hreg <;> rw [hreg] <;> decide
  have hpc (reg : Cp0Reg) (hreg : reg ≠ .status) : rowPending .returnPc reg t.ticked = false :=
    rowPending_eq_false fun x hx hrow => (h.rowOf_first x hx).returnPc hrow ▸ hreg.symm
  simp [hazardSeen, huse, eretHazard, hpss, hpc .epc (by decide), hpc .errorEpc (by decide)]

/-- PSS: RDPGPR and WRPGPR look up its own row, an ERET that would copy it the row of any register. -/
theorem pss_clauses (h : AfterMtc0 r v s t) (hu : t.cop0Usable = true) (hne : s.cp0.srs.pss ≠ t.cp0.srs.pss)
    (rt rd : Reg) :
    (∀ i ∈ [Instr.rdpgpr rt rd, .wrpgpr rt rd],
      runDecoded (.instr i) t.ticked = .refused .executionHazard ∧ hazardSeen i t.ticked.ticked = false) ∧
    (t.cp0.status.erl = false → t.cp0.status.bev = false →
      runDecoded (.instr .eret) t.ticked = .refused .executionHazard ∧
      runDecoded (.instr .eret) t.ticked.ticked = .refused .executionHazard) := by
  obtain ⟨rfl, hword⟩ := h.srsCtl_pss hne
  have hmem : hazardEntry .pss .srsCtl 1 s ∈ namedRows .srsCtl s t := by
    rw [namedRows, if_neg hne]
    exact List.mem_singleton_self _
  have hpss : rowPending .pss .srsCtl t.ticked = true := h.namedPending_first hword hmem
  have hu' : t.ticked.cop0Usable = true := hu
  have hmode : t.userMode = s.userMode := by
    rw [State.userMode, State.userMode, h.keeps.status (by decide), h.keeps.dm]
  have hsecond := h.cop0Hazard_second hmode
  have hnone := h.notPending_second .pss .srsCtl (by decide)
  refine ⟨?_, fun herl hbev => ⟨runDecoded_eret_refused hu ?_, runDecoded_eret_refused hu ?_⟩⟩
  · simp only [List.forall_mem_cons, List.not_mem_nil, false_implies, implies_true, and_true]
    exact ⟨⟨runDecoded_of_hazardSeen (by simp [hazardSeen, hu', hpss]), by simp [hazardSeen, hsecond, hnone]⟩,
      runDecoded_of_hazardSeen (by simp [hazardSeen, hu', hpss]), by simp [hazardSeen, hsecond, hnone]⟩
  · simp [eretHazard, herl, hbev, h.otherPending_first hword]
  · simp [eretHazard, herl, hbev, h.otherPending_second hword]

/-- IE cleared: the row of IE shows the old value in the first place, no row does in the second. -/
theorem ie_cleared (h : AfterMtc0 r v s t) (hold : s.cp0.status.ie = true) (hnew : t.cp0.status.ie = false)
    (htakeable : takeableUnder t.intReq { t.cp0 with status := { t.cp0.status with ie := true } } = true) :
    t.interruptPossible = true ∧ t.ticked.interruptPossible = false := by
  have hne : s.cp0.status.ie ≠ t.cp0.status.ie := by rw [hold, hnew]; decide
  obtain ⟨rfl, hword⟩ := h.status_ie hne
  have hmem : hazardEntry .ie .status 1 s ∈ namedRows .status s t := by
    refine List.mem_append_right _ ?_
    rw [if_neg hne]
    exact List.mem_singleton_self _
  constructor
  · obtain ⟨y, hy, hrow, -, hyold⟩ := h.named_first hword hmem
    have hie : y.old.status.ie = true := by rw [hyold]; exact hold
    have hrow' : y.row = .ie := hrow
    refine List.any_eq_true.mpr ⟨{ t.cp0 with status := { t.cp0.status with ie := true } }, ?_, htakeable⟩
    exact State.view_mem_views hy (by simp [Hazard.view, hrow', hie])
  · have hseen := h.forall_mem_views_second (p := fun c => c.status.ie = false) hnew
      fun w reg hw => (Cp0.withOld_ie w reg s.cp0).trans hw
    simp only [State.interruptPossible, List.any_eq_false]
    intro c hc
    simp [takeableUnder, hseen c hc]

/-- BEV: the entry of Sys depends on it while the row of any register is pending. -/
theorem syscall_bev (h : AfterMtc0 r v s t) (hdm : s.cp0.dbg.dm = false) (hne : s.cp0.status.bev ≠ t.cp0.status.bev)
    (code : BitVec 20) : runDecoded (.instr (.syscall code)) t.ticked = .refused .executionHazard ∧
      runDecoded (.instr (.syscall code)) t.ticked.ticked = .refused .executionHazard := by
  obtain ⟨rfl, hword⟩ := h.status_bev hne
  have hdm' : t.cp0.dbg.dm = false := h.keeps.dm.trans hdm
  constructor
  · obtain ⟨y, hy, hrow, hreg, hold⟩ := h.other_first hword
    exact runDecoded_syscall_of_entryHazard code (entryHazard_sys_of_row hdm' hy hrow hreg (hold ▸ hne))
  · obtain ⟨y, hy, hrow, hreg, hold⟩ := h.other_second hword
    exact runDecoded_syscall_of_entryHazard code (entryHazard_sys_of_row hdm' hy hrow hreg (hold ▸ hne))

/-- In the third place Sys is taken. -/
theorem syscall_third (h : AfterMtc0 r v s t) (code : BitVec 20) :
    runDecoded (.instr (.syscall code)) t.ticked.ticked.ticked = .next (raise .sys t) := by
  have hentry : entryHazard .sys t.ticked.ticked.ticked = false := by
    have hsees := State.sees_eq_false_iff (f := entryPoint .sys t.ticked.ticked.ticked.intReq).mpr
      fun c hc => by rw [State.views_of_spaced h.third c hc]
    rw [entryHazard, hsees, Bool.and_false]
  exact ((takes_takeException .sys _).taken hentry).trans (by rw [raise_ticked, raise_ticked, raise_ticked])

end AfterMtc0

/-- Settles O59: the clauses of Table 2-1 one by one. -/
theorem hazardOfACoprocessor0Write : Obligations.HazardOfACoprocessor0Write := by
  unfold Obligations.HazardOfACoprocessor0Write
  intro rt rt' rd rd' sel s t hnone hu hexec
  have h := AfterMtc0.of_exec hnone hu hexec
  refine ⟨hazardSeen_eq_false (State.views_of_spaced h.third) h.third.le, fun u hehb => ?ehb, fun husable hne => ?mfc0,
    fun hne huser w hw => (wordNeedsCop0_decode hw).runDecoded_refused (h.eretUseHazard_first hne huser),
    h.cop0Hazard_second, h.eret_returnPc, h.deret_depc, h.eret_status_first, fun husable hne => h.pss_clauses husable hne rt' rd',
    h.ie_cleared, fun code hdm => ⟨fun hne => h.syscall_bev hdm hne code, h.syscall_third code⟩⟩
  case ehb =>
    obtain rfl : t.ticked.executionBarrier.advance = u := Host.Outcome.next.inj hehb
    have hcleared : t.ticked.executionBarrier.advance.ticked.hazards = [] := by
      rw [State.ticked_hazards, State.advance_hazards_of_none rfl]
      rfl
    refine hazardSeen_eq_false (fun c hc => ?_) (by rw [hcleared]; exact List.forall_mem_nil _)
    rw [State.views_of_none hcleared] at hc
    exact List.mem_singleton.mp hc
  case mfc0 =>
    have hread {u : State} (hcfg : u.cfg = t.cfg) (husable : u.cop0Usable = true)
        (hpending : rowPending .other (cp0RegOf s.cfg rd sel) u = true) :
        runDecoded (.instr (.mfc0 rt' rd sel)) u = .refused .executionHazard :=
      runDecoded_of_hazardSeen (by simp [hazardSeen, readHazard, hcfg, h.cfg, husable, hpending])
    exact ⟨hread rfl husable (h.otherPending_first hne), hread rfl husable (h.otherPending_second hne)⟩

end Sys2Proof.Machine
end
